-- ==== Sys2Proof/Word.lean ====
section
/-! DEFINITION. The word types of the core (R7): 8-bit bytes, and 16-bit pairs, memory addresses and port addresses. -/

namespace Sys2Proof

/-- One byte: an 8-bit register, a memory cell, a port value (R7, R64). -/
abbrev Byte := BitVec 8

/-- A 16-bit register pair, memory address or port address (R7, R60, R61). -/
abbrev Word := BitVec 16

end Sys2Proof
end

