-- ==== Sys2Proof/Machine/Bits.lean ====
section
/-! DEFINITION. Bit fields, sign extension and byte order (R10, R21, R62, R96). -/

namespace Sys2Proof

/-- The high half of a pair, `P[15:8]` (R21). -/
def hiByte (w : Word) : Byte := w.extractLsb' 8 8

/-- The low half of a pair, `P[7:0]` (R21). -/
def loByte (w : Word) : Byte := w.extractLsb' 0 8

/-- The concatenation `{hi, lo}` (R10). -/
def joinBytes (hi lo : Byte) : Word := hi ++ lo

/-- Writing the high half: `P <- {v, P[7:0]}` (R21). -/
def setHiByte (w : Word) (v : Byte) : Word := joinBytes v (loByte w)

/-- Writing the low half: `P <- {P[15:8], v}` (R21). -/
def setLoByte (w : Word) (v : Byte) : Word := joinBytes (hiByte w) v

/-- `sext_8(v)` brought to 16 bits (R10, R96). -/
def sext8 (v : Byte) : Word := v.signExtend 16

/-- `zext_16(v)` (R10). -/
def zext16 (v : Byte) : Word := v.setWidth 16

/-- The low nibble `v[3:0]`. -/
def loNibble (v : Byte) : BitVec 4 := v.extractLsb' 0 4

/-- The high nibble `v[7:4]`. -/
def hiNibble (v : Byte) : BitVec 4 := v.extractLsb' 4 4

/-- The byte whose bit `i` is bit `7 - i` of `v` (R442). -/
def bitReverse (v : Byte) : Byte :=
  BitVec.ofBool (v.getLsbD 0) ++ BitVec.ofBool (v.getLsbD 1) ++ BitVec.ofBool (v.getLsbD 2) ++
  BitVec.ofBool (v.getLsbD 3) ++ BitVec.ofBool (v.getLsbD 4) ++ BitVec.ofBool (v.getLsbD 5) ++
  BitVec.ofBool (v.getLsbD 6) ++ BitVec.ofBool (v.getLsbD 7)

/-- The refresh update `R <- {R[7], (R[6:0] + 1) mod 128}` (R30). -/
def refreshNext (r : Byte) : Byte := r.extractLsb' 7 1 ++ (r.extractLsb' 0 7 + 1#7)

end Sys2Proof
end

