-- ==== Sys2Proof/Machine/Flags.lean ====
section
/-! DEFINITION. The flag register's layout (R22), the flag helpers (R14) and every ALU function of
40_alu_flag_tables.md (R141 to R153), with the flag formulas that instruction rules give on their own (R291, R293,
R294, R410 and the bit test of 46_rotate_shift_bit.md section 5). -/

namespace Sys2Proof.Machine

/-- `flagbyte(S,Z,Y,H,X,PV,N,C)` (R14): the flags at bits 7 to 0. -/
def flagByte (s z y h x pv n c : Bool) : Byte :=
  BitVec.ofBool s ++ BitVec.ofBool z ++ BitVec.ofBool y ++ BitVec.ofBool h ++
  BitVec.ofBool x ++ BitVec.ofBool pv ++ BitVec.ofBool n ++ BitVec.ofBool c

/-- `F.S`, bit 7 (R22). -/
def fS (f : Byte) : Bool := f.getLsbD 7
/-- `F.Z`, bit 6 (R22). -/
def fZ (f : Byte) : Bool := f.getLsbD 6
/-- `F.Y`, bit 5 (R22). -/
def fY (f : Byte) : Bool := f.getLsbD 5
/-- `F.H`, bit 4 (R22). -/
def fH (f : Byte) : Bool := f.getLsbD 4
/-- `F.X`, bit 3 (R22). -/
def fX (f : Byte) : Bool := f.getLsbD 3
/-- `F.PV`, bit 2 (R22). -/
def fPV (f : Byte) : Bool := f.getLsbD 2
/-- `F.N`, bit 1 (R22). -/
def fN (f : Byte) : Bool := f.getLsbD 1
/-- `F.C`, bit 0 (R22). -/
def fC (f : Byte) : Bool := f.getLsbD 0

/-- `parity(v)`: true when `v` has an even number of 1 bits (R14). -/
def parity (v : Byte) : Bool :=
  !(v.getLsbD 0 ^^ v.getLsbD 1 ^^ v.getLsbD 2 ^^ v.getLsbD 3 ^^ v.getLsbD 4 ^^ v.getLsbD 5 ^^ v.getLsbD 6 ^^
    v.getLsbD 7)

/-- The flag byte whose S, Z, Y and X come from the byte `v` (R14's `szxy`) and whose other flags are given. -/
def szxyWith (v : Byte) (h pv n c : Bool) : Byte :=
  flagByte (v.getLsbD 7) (v == 0) (v.getLsbD 5) h (v.getLsbD 3) pv n c

/-- The flag byte whose S, Z, Y, X and PV = parity come from the byte `v` (R14's `szxyp`). -/
def szxypWith (v : Byte) (h n c : Bool) : Byte := szxyWith v h (parity v) n c

/-- The flag byte of a 16-bit result: S = bit 15, Y = bit 13, X = bit 11, Z over all 16 bits (R152, R153). -/
def szxyWith16 (v : Word) (h pv n c : Bool) : Byte :=
  flagByte (v.getLsbD 15) (v == 0) (v.getLsbD 13) h (v.getLsbD 11) pv n c

/-- `INC8(v, f)` (R141). -/
def inc8 (v f : Byte) : Byte × Byte :=
  (v + 1, szxyWith (v + 1) (v &&& 0x0F == 0x0F) (v == 0x7F) false (fC f))

/-- `DEC8(v, f)` (R142). -/
def dec8 (v f : Byte) : Byte × Byte :=
  (v - 1, szxyWith (v - 1) (v &&& 0x0F == 0x00) (v == 0x80) true (fC f))

/-- `ADD8(a, b, cin)` (R143). -/
def add8 (a b : Byte) (cin : Bool) : Byte × Byte :=
  let t := a.toNat + b.toNat + cin.toNat
  let res := BitVec.ofNat 8 t
  let h := decide ((a &&& 0x0F).toNat + (b &&& 0x0F).toNat + cin.toNat > 0x0F)
  let pv := a.getLsbD 7 == b.getLsbD 7 && res.getLsbD 7 != a.getLsbD 7
  (res, szxyWith res h pv false (decide (t ≥ 256)))

/-- `SUB8(a, b, cin)` (R144). -/
def sub8 (a b : Byte) (cin : Bool) : Byte × Byte :=
  let t : Int := (a.toNat : Int) - b.toNat - cin.toNat
  let res := BitVec.ofInt 8 t
  let h := decide (((a &&& 0x0F).toNat : Int) - (b &&& 0x0F).toNat - cin.toNat < 0)
  let pv := a.getLsbD 7 != b.getLsbD 7 && res.getLsbD 7 != a.getLsbD 7
  (res, szxyWith res h pv true (decide (t < 0)))

/-- `CP8(a, b)` (R145): the flags of `SUB8(a, b, 0)` with Y and X from the operand `b`. -/
def cp8 (a b : Byte) : Byte :=
  let f1 := (sub8 a b false).2
  flagByte (fS f1) (fZ f1) (b.getLsbD 5) (fH f1) (b.getLsbD 3) (fPV f1) (fN f1) (fC f1)

/-- `LOGIC(res, h)` (R146). -/
def logicFlags (res : Byte) (h : Bool) : Byte := szxypWith res h false false

/-- The eight rotates and shifts of R147. -/
inductive RotKind where
  | rlc
  | rrc
  | rl
  | rr
  | sla
  | sra
  | sll
  | srl
  deriving DecidableEq, Repr

/-- Rotate and shift results `(res, cout)` (R147). -/
def rotResult (k : RotKind) (v : Byte) (cin : Bool) : Byte × Bool :=
  let b7 := v.getLsbD 7
  let b0 := v.getLsbD 0
  let left (c : Bool) : Byte := v.extractLsb' 0 7 ++ BitVec.ofBool c
  let right (c : Bool) : Byte := BitVec.ofBool c ++ v.extractLsb' 1 7
  match k with
  | .rlc => (left b7, b7)
  | .rrc => (right b0, b0)
  | .rl => (left cin, b7)
  | .rr => (right cin, b0)
  | .sla => (left false, b7)
  | .sra => (right b7, b0)
  | .sll => (left true, b7)
  | .srl => (right false, b0)

/-- A rotate or shift with the flags `SHFLAGS(res, cout)` (R148). -/
def rotOp (k : RotKind) (v f : Byte) : Byte × Byte :=
  let (res, cout) := rotResult k v (fC f)
  (res, szxypWith res false false cout)

/-- An accumulator rotate with the flags `ACCROTFLAGS(res, cout, f)` (R149). -/
def accRotOp (k : RotKind) (v f : Byte) : Byte × Byte :=
  let (res, cout) := rotResult k v (fC f)
  (res, flagByte (fS f) (fZ f) (res.getLsbD 5) false (res.getLsbD 3) (fPV f) false cout)

/-- `DAA8(a, f)` (R150). -/
def daa8 (a f : Byte) : Byte × Byte :=
  let low := (a &&& 0x0F).toNat
  let fixLow := fH f || decide (low > 9)
  let fixHigh := fC f || decide (a.toNat > 0x99)
  let corr : Byte := (if fixLow then 0x06 else 0x00) + (if fixHigh then 0x60 else 0x00)
  let res := if fN f then a - corr else a + corr
  let hout := if fN f then fH f && decide (low < 6) else decide (low > 9)
  (res, szxypWith res hout (fN f) fixHigh)

/-- `ADD16(a, b, f)` (R151). -/
def add16 (a b : Word) (f : Byte) : Word × Byte :=
  let t := a.toNat + b.toNat
  let res := BitVec.ofNat 16 t
  let h := decide ((a &&& 0x0FFF).toNat + (b &&& 0x0FFF).toNat > 0x0FFF)
  (res, flagByte (fS f) (fZ f) (res.getLsbD 13) h (res.getLsbD 11) (fPV f) false (decide (t > 0xFFFF)))

/-- `ADC16(a, b, cin)` (R152). -/
def adc16 (a b : Word) (cin : Bool) : Word × Byte :=
  let t := a.toNat + b.toNat + cin.toNat
  let res := BitVec.ofNat 16 t
  let h := decide ((a &&& 0x0FFF).toNat + (b &&& 0x0FFF).toNat + cin.toNat > 0x0FFF)
  let pv := a.getLsbD 15 == b.getLsbD 15 && res.getLsbD 15 != a.getLsbD 15
  (res, szxyWith16 res h pv false (decide (t > 0xFFFF)))

/-- `SBC16(a, b, cin)` (R153). -/
def sbc16 (a b : Word) (cin : Bool) : Word × Byte :=
  let t : Int := (a.toNat : Int) - b.toNat - cin.toNat
  let res := BitVec.ofInt 16 t
  let h := decide (((a &&& 0x0FFF).toNat : Int) - (b &&& 0x0FFF).toNat - cin.toNat < 0)
  let pv := a.getLsbD 15 != b.getLsbD 15 && res.getLsbD 15 != a.getLsbD 15
  (res, szxyWith16 res h pv true (decide (t < 0)))

/-- CPL's result and flags (R291): H = N = 1, Y and X from the new A. -/
def cpl8 (a f : Byte) : Byte × Byte :=
  let res := a ^^^ 0xFF
  (res, flagByte (fS f) (fZ f) (res.getLsbD 5) true (res.getLsbD 3) (fPV f) true (fC f))

/-- CCF's flags (R293; D24). -/
def ccfFlags (a f : Byte) : Byte :=
  flagByte (fS f) (fZ f) (a.getLsbD 5) (fC f) (a.getLsbD 3) (fPV f) false (!fC f)

/-- SCF's flags (R294; D24). -/
def scfFlags (a f : Byte) : Byte :=
  flagByte (fS f) (fZ f) (a.getLsbD 5) false (a.getLsbD 3) (fPV f) false true

/-- The bit test flags for a tested byte `v`, bit number `b` and an X/Y source byte `xy` (46_rotate_shift_bit.md
section 5; R355 to R357). -/
def bitFlags (b : BitVec 3) (v xy f : Byte) : Byte :=
  let t := v.getLsbD b.toNat
  flagByte (b == 7 && t) (!t) (xy.getLsbD 5) true (xy.getLsbD 3) (!t) false (fC f)

/-- SET's operation: `v | (1 << b)`, flags unchanged (R358). -/
def setOp (b : BitVec 3) (v f : Byte) : Byte × Byte := (v ||| (1#8 <<< b.toNat), f)

/-- RES's operation: `v & ~(1 << b)`, flags unchanged (R359). -/
def resOp (b : BitVec 3) (v f : Byte) : Byte × Byte := (v &&& ~~~(1#8 <<< b.toNat), f)

/-- `BIOFLAGS(value, k)` with `b` the B register after the decrement (R410; D25). -/
def bioFlags (value b : Byte) (k : Nat) : Byte :=
  let ov := decide (k > 255)
  szxyWith b ov (parity (BitVec.ofNat 8 (k % 8) ^^^ b)) (value.getLsbD 7) ov

/-- The flags of one block transfer step (R234): Y and X from `v + a`, PV = "BC is not 0 after the decrement". -/
def blockLoadFlags (v a f : Byte) (bcNonzero : Bool) : Byte :=
  let k := v + a
  flagByte (fS f) (fZ f) (k.getLsbD 1) false (k.getLsbD 3) bcNonzero false (fC f)

/-- The flags of one block search step (R238): S, Z and H of `a - v`, Y and X from `a - v - H`. -/
def blockCompareFlags (v a f : Byte) (bcNonzero : Bool) : Byte :=
  let r := sub8 a v false
  let k := r.1 - BitVec.setWidth 8 (BitVec.ofBool (fH r.2))
  flagByte (fS r.2) (fZ r.2) (k.getLsbD 1) (fH r.2) (k.getLsbD 3) bcNonzero true (fC f)

end Sys2Proof.Machine
end

