-- ==== Sys2Proof/Config.lean ====
section
/-! DEFINITION. The construction-time parameters of the core (R8, R39), the devices among them, and the free values of the
model: what the default port device answers to a read (R8 `PORT`, R66), and what a device answers whose behaviour the
platform decides (R60, R66). -/

namespace Sys2Proof

/-- `SIGNAL_ORDER` (R8, R484; 92_eei_decisions D4): the order in which an Idle call services pending signals. -/
inductive SignalOrder where
  /-- the document's list: INT, halted-spin, RESET, NMI -/
  | doc
  /-- the order of the Z80 part: RESET, NMI, INT, halted-spin -/
  | z80
  deriving DecidableEq, Repr

/-- `CONTENTION_MODEL` (R8, R547; D19): the two contention decompositions; no rule reads it. -/
inductive ContentionModel where
  | first
  | second
  deriving DecidableEq, Repr

/-! ### The devices at their boundary (R12, R60, R61, R66, R499) -/

/-- One call to an external device (R12, R64, R499), with what a read answered. -/
inductive DeviceCall where
  /-- `MemRead(a, 1)` answered `v` -/
  | memRead (a : Word) (v : Byte)
  /-- `MemWrite(a, 1, v)` -/
  | memWrite (a : Word) (v : Byte)
  /-- `PortRead(port)` answered `v` -/
  | portRead (port : Word) (v : Byte)
  /-- `PortWrite(port, v)` -/
  | portWrite (port : Word) (v : Byte)
  /-- `select(reg)` of the extended-register device -/
  | extSelect (reg : Byte)
  /-- `setValue(v)` of the extended-register device -/
  | extSetValue (v : Byte)
  deriving DecidableEq, Repr

/-- The call reaches the port device. -/
def DeviceCall.isPort : DeviceCall → Bool
  | .memRead _ _ => false
  | .memWrite _ _ => false
  | .portRead _ _ => true
  | .portWrite _ _ => true
  | .extSelect _ => false
  | .extSetValue _ => false

/-- The call reaches the extended-register device. -/
def DeviceCall.isExtReg : DeviceCall → Bool
  | .memRead _ _ => false
  | .memWrite _ _ => false
  | .portRead _ _ => false
  | .portWrite _ _ => false
  | .extSelect _ => true
  | .extSetValue _ => true

/-- `MEM` (R8, R9, R60, R66; D23). -/
inductive MemDevice where
  /-- the default: plain 64 KiB RAM -/
  | ram
  /-- any other memory device (ROM, paging, reads with side effects), by its number: it answers `Config.memAnswer` -/
  | external (device : Nat)
  deriving DecidableEq, Repr

/-- `PORT` (R8, R9, R61, R66; D23). -/
inductive PortDevice where
  /-- the default: every read is a draw, every write is recorded -/
  | draws
  /-- any other port device, by its number: it answers `Config.portAnswer` -/
  | external (device : Nat)
  deriving DecidableEq, Repr

/-- FREE VALUE (log entry 3): what the default port device answers to the `k`-th read, made at `port`. R66: it "answers
each PortRead with an unconstrained draw". It has no body, so nothing can be proved of its value. -/
opaque Config.portDraw (k : Nat) (port : Word) : Byte

/-- FREE VALUE (log entry 12): what the external memory device answers to a read at `a`, after the device calls `before`
(newest first) of the run. It may depend on all of them, reads among them: R66 lets a read have side effects and return
something else than the last value written. -/
opaque Config.memAnswer (device : Nat) (before : List DeviceCall) (a : Word) : Byte

/-- FREE VALUE (log entry 12): what the external port device answers to a read at `port`, after the device calls
`before`. -/
opaque Config.portAnswer (device : Nat) (before : List DeviceCall) (port : Word) : Byte

/-! ### The parameters -/

/-- The extended-table codes of 49_z80n_extended.md, the default `EXT_SET` (R440; D17). -/
def z80nCodes : List Byte :=
  [0x23, 0x24, 0x27, 0x28, 0x29, 0x2A, 0x2B, 0x2C, 0x30, 0x31, 0x32, 0x33, 0x34, 0x35, 0x36] ++
  [0x8A, 0x90, 0x91, 0x92, 0x93, 0x94, 0x95, 0x98, 0xA4, 0xA5, 0xAC, 0xB4, 0xB7, 0xBC]

/-- The parameters of R8. `MEM` and `PORT` have no default here: they are mandatory, so a core without them cannot be
built (R9). `INITIAL_REGS` is the argument of `State.construct`. -/
structure Config where
  /-- `MEM`: the memory device (R9, R60, R66; D23) -/
  memDevice : MemDevice
  /-- `PORT`: the port device (R9, R61, R66; D23) -/
  portDevice : PortDevice
  /-- `EXT_OPS_ENABLED` (R440; D17) -/
  extOpsEnabled : Bool := false
  /-- `EXT_SET` (R440; D17) -/
  extSet : List Byte := z80nCodes
  /-- `EXT_REG_DEVICE`: whether the optional extended-register device is attached (R9, R499; D18) -/
  extRegDevice : Bool := false
  /-- `CONTENTION_MODEL` (R547; D19) -/
  contention : ContentionModel := .first
  /-- `SIGNAL_ORDER` (R484; D4) -/
  signalOrder : SignalOrder := .doc
  /-- `EI_DELAY` (R298, R541; D8) -/
  eiDelay : Bool := true
  /-- `NMI_AUTOCLEAR` (R491; D10) -/
  nmiAutoclear : Bool := true
  /-- `R_INC_ON_ACK` (R487, R491; D11) -/
  rIncOnAck : Bool := true
  deriving DecidableEq, Repr

/-- Every parameter at the default of R8. -/
def Config.default : Config := { memDevice := .ram, portDevice := .draws }

/-- The configuration under which every row of the opcode table is an instruction: the default one with the extended
subset enabled (R440). -/
def Config.allRows : Config := { Config.default with extOpsEnabled := true }

/-- An extended-table code that the configuration dispatches to 49_z80n_extended.md (R440): the toggle is on and the
code is in `EXT_SET`. -/
def Config.extOn (cfg : Config) (op : Byte) : Bool := cfg.extOpsEnabled && cfg.extSet.contains op

end Sys2Proof
end

