-- ==== Sys2Proof/Syntax.lean ====
section
/-! DEFINITION. The instructions: one constructor for every mnemonic of spec/opcode_table.json, with the operands its
encoding carries (30_encoding.md R90 to R97, R108 to R111), and the decoder's states (R100). A mnemonic that the table
splits over several rows of match and mask has one constructor. HALT, which the table lists in two tables, has two. -/

namespace Sys2Proof

/-- An 8-bit register selector that is not 6 (R93). In the rows of the index table that substitute XH and XL, `h` and
`l` stand for XH and XL. -/
inductive Reg8 where
  | b
  | c
  | d
  | e
  | h
  | l
  | a
  deriving DecidableEq, Repr

/-- A selector that no index prefix changes: not 4 or 5 (R93, R97). -/
def Reg8.plain : Reg8 → Bool
  | .h => false
  | .l => false
  | .b => true
  | .c => true
  | .d => true
  | .e => true
  | .a => true

/-- A half of an index register: XH or XL (R24). -/
inductive Half where
  | high
  | low
  deriving DecidableEq, Repr

/-- The index register X: IX after DD, IY after FD (R97). -/
inductive Idx where
  | ix
  | iy
  deriving DecidableEq, Repr

/-- The pair selector `rp` (R94). In `ADD X,pp` the value `hl` stands for X (R320). -/
inductive Rp where
  | bc
  | de
  | hl
  | sp
  deriving DecidableEq, Repr

/-- The pair selector `rp2` (R94). -/
inductive Rp2 where
  | bc
  | de
  | hl
  | af
  deriving DecidableEq, Repr

/-- The condition selector (R95). -/
inductive Cond where
  | nz
  | z
  | nc
  | c
  | po
  | pe
  | p
  | m
  deriving DecidableEq, Repr

/-- The conditions `JR cc,e` can name (R95, R383). -/
def Cond.isJr : Cond → Bool
  | .nz => true
  | .z => true
  | .nc => true
  | .c => true
  | .po => false
  | .pe => false
  | .p => false
  | .m => false

/-- A prefix byte that may follow an index prefix, CB apart (R102). -/
inductive IdxPrefix where
  | dd
  | fd
  | ed
  deriving DecidableEq, Repr

/-- The decoder's states (R100): each is a value of (`prefixMode`, `indexMode`). -/
inductive DecoderState where
  | idle
  | indexPending (x : Idx)
  | bitPending
  | extendedPending
  | indexBitPending (x : Idx)
  deriving DecidableEq, Repr

/-- The state an index prefix's successor leads to (R102): a later DD or FD replaces the earlier one, ED cancels it. -/
def IdxPrefix.nextState : IdxPrefix → DecoderState
  | .dd => .indexPending .ix
  | .fd => .indexPending .iy
  | .ed => .extendedPending

/-- The instructions. `y` and `z` are opcode bits that choose among encodings of one instruction (R292, R299 to R301,
R357, R391); `op` is the opcode byte of an extended no-op (R302). The instructions without operands stand after those with operands. -/
inductive Instr where
  /-- LD r,r' (R180; base:op) -/
  | ldRR (r : Reg8) (r2 : Reg8)
  /-- LD r,r' (index prefix has no effect) (R180; index:X op) -/
  | ldRRX (x : Idx) (r : Reg8) (r2 : Reg8)
  /-- LD r,r' (H, L -> XH, XL) (R180; index:X op) -/
  | ldRRXH (x : Idx) (r : Reg8) (r2 : Reg8)
  /-- LD r,n (R181; base:op n) -/
  | ldRN (r : Reg8) (n : Byte)
  /-- LD r,n (index prefix has no effect) (R181; index:X op n) -/
  | ldRNX (x : Idx) (r : Reg8) (n : Byte)
  /-- LD XH/XL,n (R181; index:X op n) -/
  | ldXHN (x : Idx) (h : Half) (n : Byte)
  /-- LD r,(HL) (R182; base:op) -/
  | ldRMHl (r : Reg8)
  /-- LD r,(X+d) (R183; index:X op d) -/
  | ldRMXd (x : Idx) (r : Reg8) (d : Byte)
  /-- LD (HL),r (R184; base:op) -/
  | ldMHlR (r : Reg8)
  /-- LD (X+d),r (R185; index:X op d) -/
  | ldMXdR (x : Idx) (r : Reg8) (d : Byte)
  /-- LD (HL),n (R186; base:op n) -/
  | ldMHlN (n : Byte)
  /-- LD (X+d),n (R187; index:X op d n) -/
  | ldMXdN (x : Idx) (d : Byte) (n : Byte)
  /-- LD A,(BC) (index prefix has no effect) (R188; index:X op) -/
  | ldABcX (x : Idx)
  /-- LD A,(DE) (index prefix has no effect) (R189; index:X op) -/
  | ldADeX (x : Idx)
  /-- LD A,(nn) (R190; base:op lo hi) -/
  | ldAMem (nn : Word)
  /-- LD A,(nn) (index prefix has no effect) (R190; index:X op lo hi) -/
  | ldAMemX (x : Idx) (nn : Word)
  /-- LD (BC),A (index prefix has no effect) (R191; index:X op) -/
  | ldBcAX (x : Idx)
  /-- LD (DE),A (index prefix has no effect) (R192; index:X op) -/
  | ldDeAX (x : Idx)
  /-- LD (nn),A (R193; base:op lo hi) -/
  | ldMemA (nn : Word)
  /-- LD (nn),A (index prefix has no effect) (R193; index:X op lo hi) -/
  | ldMemAX (x : Idx) (nn : Word)
  /-- LD dd,nn (R198; base:op lo hi) -/
  | ldRpNn (p : Rp) (nn : Word)
  /-- LD dd,nn (index prefix has no effect) (R198; index:X op lo hi) -/
  | ldRpNnX (x : Idx) (p : Rp) (nn : Word)
  /-- LD X,nn (R198; index:X op lo hi) -/
  | ldXNn (x : Idx) (nn : Word)
  /-- LD HL,(nn) (R199; base:op lo hi) -/
  | ldHlMem (nn : Word)
  /-- LD X,(nn) (R199; index:X op lo hi) -/
  | ldXMem (x : Idx) (nn : Word)
  /-- LD dd,(nn) (R200; extended:ED op lo hi) -/
  | ldRpMem (p : Rp) (nn : Word)
  /-- LD (nn),HL (R201; base:op lo hi) -/
  | ldMemHl (nn : Word)
  /-- LD (nn),X (R201; index:X op lo hi) -/
  | ldMemX (x : Idx) (nn : Word)
  /-- LD (nn),dd (R202; extended:ED op lo hi) -/
  | ldMemRp (p : Rp) (nn : Word)
  /-- LD SP,X (R203; index:X op) -/
  | ldSpX (x : Idx)
  /-- PUSH qq (R204; base:op) -/
  | pushQ (q : Rp2)
  /-- PUSH qq (index prefix has no effect) (R204; index:X op) -/
  | pushQX (x : Idx) (q : Rp2)
  /-- PUSH X (R204; index:X op) -/
  | pushX (x : Idx)
  /-- POP qq (R205; base:op) -/
  | popQ (q : Rp2)
  /-- POP qq (index prefix has no effect) (R205; index:X op) -/
  | popQX (x : Idx) (q : Rp2)
  /-- POP X (R205; index:X op) -/
  | popX (x : Idx)
  /-- EX DE,HL (index prefix has no effect) (R230; index:X op) -/
  | exDeHlX (x : Idx)
  /-- EX AF,AF' (index prefix has no effect) (R231; index:X op) -/
  | exAfX (x : Idx)
  /-- EXX (index prefix has no effect) (R232; index:X op) -/
  | exxX (x : Idx)
  /-- EX (SP),X (R233; index:X op) -/
  | exSpX (x : Idx)
  /-- ADD A,r (R261; base:op) -/
  | addR (r : Reg8)
  /-- ADD A,r (index prefix has no effect) (R261; index:X op) -/
  | addRX (x : Idx) (r : Reg8)
  /-- ADD A,XH/XL (R261; index:X op) -/
  | addXH (x : Idx) (h : Half)
  /-- ADD A,n (R261; base:op n) -/
  | addN (n : Byte)
  /-- ADD A,n (index prefix has no effect) (R261; index:X op n) -/
  | addNX (x : Idx) (n : Byte)
  /-- ADD A,(X+d) (R261; index:X op d) -/
  | addMXd (x : Idx) (d : Byte)
  /-- ADC A,r (R262; base:op) -/
  | adcR (r : Reg8)
  /-- ADC A,r (index prefix has no effect) (R262; index:X op) -/
  | adcRX (x : Idx) (r : Reg8)
  /-- ADC A,XH/XL (R262; index:X op) -/
  | adcXH (x : Idx) (h : Half)
  /-- ADC A,n (R262; base:op n) -/
  | adcN (n : Byte)
  /-- ADC A,n (index prefix has no effect) (R262; index:X op n) -/
  | adcNX (x : Idx) (n : Byte)
  /-- ADC A,(X+d) (R262; index:X op d) -/
  | adcMXd (x : Idx) (d : Byte)
  /-- SUB r (R263; base:op) -/
  | subR (r : Reg8)
  /-- SUB r (index prefix has no effect) (R263; index:X op) -/
  | subRX (x : Idx) (r : Reg8)
  /-- SUB XH/XL (R263; index:X op) -/
  | subXH (x : Idx) (h : Half)
  /-- SUB n (R263; base:op n) -/
  | subN (n : Byte)
  /-- SUB n (index prefix has no effect) (R263; index:X op n) -/
  | subNX (x : Idx) (n : Byte)
  /-- SUB (X+d) (R263; index:X op d) -/
  | subMXd (x : Idx) (d : Byte)
  /-- SBC A,r (R264; base:op) -/
  | sbcR (r : Reg8)
  /-- SBC A,r (index prefix has no effect) (R264; index:X op) -/
  | sbcRX (x : Idx) (r : Reg8)
  /-- SBC A,XH/XL (R264; index:X op) -/
  | sbcXH (x : Idx) (h : Half)
  /-- SBC A,n (R264; base:op n) -/
  | sbcN (n : Byte)
  /-- SBC A,n (index prefix has no effect) (R264; index:X op n) -/
  | sbcNX (x : Idx) (n : Byte)
  /-- SBC A,(X+d) (R264; index:X op d) -/
  | sbcMXd (x : Idx) (d : Byte)
  /-- AND r (R265; base:op) -/
  | andR (r : Reg8)
  /-- AND r (index prefix has no effect) (R265; index:X op) -/
  | andRX (x : Idx) (r : Reg8)
  /-- AND XH/XL (R265; index:X op) -/
  | andXH (x : Idx) (h : Half)
  /-- AND n (R265; base:op n) -/
  | andN (n : Byte)
  /-- AND n (index prefix has no effect) (R265; index:X op n) -/
  | andNX (x : Idx) (n : Byte)
  /-- AND (X+d) (R265; index:X op d) -/
  | andMXd (x : Idx) (d : Byte)
  /-- XOR r (R266; base:op) -/
  | xorR (r : Reg8)
  /-- XOR r (index prefix has no effect) (R266; index:X op) -/
  | xorRX (x : Idx) (r : Reg8)
  /-- XOR XH/XL (R266; index:X op) -/
  | xorXH (x : Idx) (h : Half)
  /-- XOR n (R266; base:op n) -/
  | xorN (n : Byte)
  /-- XOR n (index prefix has no effect) (R266; index:X op n) -/
  | xorNX (x : Idx) (n : Byte)
  /-- XOR (X+d) (R266; index:X op d) -/
  | xorMXd (x : Idx) (d : Byte)
  /-- OR r (R267; base:op) -/
  | orR (r : Reg8)
  /-- OR r (index prefix has no effect) (R267; index:X op) -/
  | orRX (x : Idx) (r : Reg8)
  /-- OR XH/XL (R267; index:X op) -/
  | orXH (x : Idx) (h : Half)
  /-- OR n (R267; base:op n) -/
  | orN (n : Byte)
  /-- OR n (index prefix has no effect) (R267; index:X op n) -/
  | orNX (x : Idx) (n : Byte)
  /-- OR (X+d) (R267; index:X op d) -/
  | orMXd (x : Idx) (d : Byte)
  /-- CP r (R268; base:op) -/
  | cpR (r : Reg8)
  /-- CP r (index prefix has no effect) (R268; index:X op) -/
  | cpRX (x : Idx) (r : Reg8)
  /-- CP XH/XL (R268; index:X op) -/
  | cpXH (x : Idx) (h : Half)
  /-- CP n (R268; base:op n) -/
  | cpN (n : Byte)
  /-- CP n (index prefix has no effect) (R268; index:X op n) -/
  | cpNX (x : Idx) (n : Byte)
  /-- CP (X+d) (R268; index:X op d) -/
  | cpMXd (x : Idx) (d : Byte)
  /-- INC r (R269; base:op) -/
  | incR (r : Reg8)
  /-- INC r (index prefix has no effect) (R269; index:X op) -/
  | incRX (x : Idx) (r : Reg8)
  /-- INC XH/XL (R269; index:X op) -/
  | incXH (x : Idx) (h : Half)
  /-- INC (X+d) (R270; index:X op d) -/
  | incMXd (x : Idx) (d : Byte)
  /-- DEC r (R271; base:op) -/
  | decR (r : Reg8)
  /-- DEC r (index prefix has no effect) (R271; index:X op) -/
  | decRX (x : Idx) (r : Reg8)
  /-- DEC XH/XL (R271; index:X op) -/
  | decXH (x : Idx) (h : Half)
  /-- DEC (X+d) (R272; index:X op d) -/
  | decMXd (x : Idx) (d : Byte)
  /-- DAA (index prefix has no effect) (R290; index:X op) -/
  | daaX (x : Idx)
  /-- CPL (index prefix has no effect) (R291; index:X op) -/
  | cplX (x : Idx)
  /-- NEG (R292; extended:ED op) -/
  | neg (y : BitVec 3)
  /-- CCF (index prefix has no effect) (R293; index:X op) -/
  | ccfX (x : Idx)
  /-- SCF (index prefix has no effect) (R294; index:X op) -/
  | scfX (x : Idx)
  /-- NOP (index prefix has no effect) (R295; index:X op) -/
  | nopX (x : Idx)
  /-- HALT after an index prefix (R296; index:X op) -/
  | haltX (x : Idx)
  /-- DI (index prefix has no effect) (R297; index:X op) -/
  | diX (x : Idx)
  /-- EI (index prefix has no effect) (R298; index:X op) -/
  | eiX (x : Idx)
  /-- IM m (R299, R300, R301; extended:ED op) -/
  | im (y : BitVec 3)
  /-- extended no-op (R302; extended:ED op) -/
  | extNoop (op : Byte)
  /-- ADD HL,ss (R320; base:op) -/
  | addHlRp (p : Rp)
  /-- ADD X,pp (R320; index:X op) -/
  | addXRp (x : Idx) (p : Rp)
  /-- ADC HL,ss (R321; extended:ED op) -/
  | adcHlRp (p : Rp)
  /-- SBC HL,ss (R322; extended:ED op) -/
  | sbcHlRp (p : Rp)
  /-- INC ss (R323; base:op) -/
  | incRp (p : Rp)
  /-- INC ss (index prefix has no effect) (R323; index:X op) -/
  | incRpX (x : Idx) (p : Rp)
  /-- INC X (R323; index:X op) -/
  | incX (x : Idx)
  /-- DEC ss (R324; base:op) -/
  | decRp (p : Rp)
  /-- DEC ss (index prefix has no effect) (R324; index:X op) -/
  | decRpX (x : Idx) (p : Rp)
  /-- DEC X (R324; index:X op) -/
  | decX (x : Idx)
  /-- RLCA (index prefix has no effect) (R340; index:X op) -/
  | rlcaX (x : Idx)
  /-- RLA (index prefix has no effect) (R341; index:X op) -/
  | rlaX (x : Idx)
  /-- RRCA (index prefix has no effect) (R342; index:X op) -/
  | rrcaX (x : Idx)
  /-- RRA (index prefix has no effect) (R343; index:X op) -/
  | rraX (x : Idx)
  /-- RLC r (R345; bit:CB op) -/
  | rlcR (r : Reg8)
  /-- RLC (X+d),r (R345; index+bit:X CB d op) -/
  | rlcMXdR (x : Idx) (d : Byte) (r : Reg8)
  /-- RLC (X+d) (R345; index+bit:X CB d op) -/
  | rlcMXd (x : Idx) (d : Byte)
  /-- RRC r (R347; bit:CB op) -/
  | rrcR (r : Reg8)
  /-- RRC (X+d),r (R347; index+bit:X CB d op) -/
  | rrcMXdR (x : Idx) (d : Byte) (r : Reg8)
  /-- RRC (X+d) (R347; index+bit:X CB d op) -/
  | rrcMXd (x : Idx) (d : Byte)
  /-- RL r (R346; bit:CB op) -/
  | rlR (r : Reg8)
  /-- RL (X+d),r (R346; index+bit:X CB d op) -/
  | rlMXdR (x : Idx) (d : Byte) (r : Reg8)
  /-- RL (X+d) (R346; index+bit:X CB d op) -/
  | rlMXd (x : Idx) (d : Byte)
  /-- RR r (R348; bit:CB op) -/
  | rrR (r : Reg8)
  /-- RR (X+d),r (R348; index+bit:X CB d op) -/
  | rrMXdR (x : Idx) (d : Byte) (r : Reg8)
  /-- RR (X+d) (R348; index+bit:X CB d op) -/
  | rrMXd (x : Idx) (d : Byte)
  /-- SLA r (R349; bit:CB op) -/
  | slaR (r : Reg8)
  /-- SLA (X+d),r (R349; index+bit:X CB d op) -/
  | slaMXdR (x : Idx) (d : Byte) (r : Reg8)
  /-- SLA (X+d) (R349; index+bit:X CB d op) -/
  | slaMXd (x : Idx) (d : Byte)
  /-- SRA r (R350; bit:CB op) -/
  | sraR (r : Reg8)
  /-- SRA (X+d),r (R350; index+bit:X CB d op) -/
  | sraMXdR (x : Idx) (d : Byte) (r : Reg8)
  /-- SRA (X+d) (R350; index+bit:X CB d op) -/
  | sraMXd (x : Idx) (d : Byte)
  /-- SLL r (R351; bit:CB op) -/
  | sllR (r : Reg8)
  /-- SLL (X+d),r (R351; index+bit:X CB d op) -/
  | sllMXdR (x : Idx) (d : Byte) (r : Reg8)
  /-- SLL (X+d) (R351; index+bit:X CB d op) -/
  | sllMXd (x : Idx) (d : Byte)
  /-- SRL r (R352; bit:CB op) -/
  | srlR (r : Reg8)
  /-- SRL (X+d),r (R352; index+bit:X CB d op) -/
  | srlMXdR (x : Idx) (d : Byte) (r : Reg8)
  /-- SRL (X+d) (R352; index+bit:X CB d op) -/
  | srlMXd (x : Idx) (d : Byte)
  /-- BIT b,r (R355; bit:CB op) -/
  | bitR (b : BitVec 3) (r : Reg8)
  /-- BIT b,(HL) (R356; bit:CB op) -/
  | bitMHl (b : BitVec 3)
  /-- BIT b,(X+d) (R357; index+bit:X CB d op) -/
  | bitMXd (x : Idx) (d : Byte) (b : BitVec 3) (z : BitVec 3)
  /-- SET b,r (R358; bit:CB op) -/
  | setR (b : BitVec 3) (r : Reg8)
  /-- SET b,(HL) (R358; bit:CB op) -/
  | setMHl (b : BitVec 3)
  /-- SET b,(X+d),r (R358; index+bit:X CB d op) -/
  | setMXdR (x : Idx) (d : Byte) (b : BitVec 3) (r : Reg8)
  /-- SET b,(X+d) (R358; index+bit:X CB d op) -/
  | setMXd (x : Idx) (d : Byte) (b : BitVec 3)
  /-- RES b,r (R359; bit:CB op) -/
  | resR (b : BitVec 3) (r : Reg8)
  /-- RES b,(HL) (R359; bit:CB op) -/
  | resMHl (b : BitVec 3)
  /-- RES b,(X+d),r (R359; index+bit:X CB d op) -/
  | resMXdR (x : Idx) (d : Byte) (b : BitVec 3) (r : Reg8)
  /-- RES b,(X+d) (R359; index+bit:X CB d op) -/
  | resMXd (x : Idx) (d : Byte) (b : BitVec 3)
  /-- JP nn (R380; base:op lo hi) -/
  | jp (nn : Word)
  /-- JP nn (index prefix has no effect) (R380; index:X op lo hi) -/
  | jpX (x : Idx) (nn : Word)
  /-- JP cc,nn (R381; base:op lo hi) -/
  | jpCc (cc : Cond) (nn : Word)
  /-- JP cc,nn (index prefix has no effect) (R381; index:X op lo hi) -/
  | jpCcX (x : Idx) (cc : Cond) (nn : Word)
  /-- JR e (R382; base:op e) -/
  | jr (e : Byte)
  /-- JR e (index prefix has no effect) (R382; index:X op e) -/
  | jrX (x : Idx) (e : Byte)
  /-- JR cc,e (R383; base:op e) -/
  | jrCc (cc : Cond) (e : Byte)
  /-- JR cc,e (index prefix has no effect) (R383; index:X op e) -/
  | jrCcX (x : Idx) (cc : Cond) (e : Byte)
  /-- JP (X) (R384; index:X op) -/
  | jpIdx (x : Idx)
  /-- DJNZ e (R385; base:op e) -/
  | djnz (e : Byte)
  /-- DJNZ e (index prefix has no effect) (R385; index:X op e) -/
  | djnzX (x : Idx) (e : Byte)
  /-- CALL nn (R386; base:op lo hi) -/
  | call (nn : Word)
  /-- CALL nn (index prefix has no effect) (R386; index:X op lo hi) -/
  | callX (x : Idx) (nn : Word)
  /-- CALL cc,nn (R387; base:op lo hi) -/
  | callCc (cc : Cond) (nn : Word)
  /-- CALL cc,nn (index prefix has no effect) (R387; index:X op lo hi) -/
  | callCcX (x : Idx) (cc : Cond) (nn : Word)
  /-- RET (index prefix has no effect) (R388; index:X op) -/
  | retX (x : Idx)
  /-- RET cc (R389; base:op) -/
  | retCc (cc : Cond)
  /-- RET cc (index prefix has no effect) (R389; index:X op) -/
  | retCcX (x : Idx) (cc : Cond)
  /-- RETN (R391; extended:ED op) -/
  | retn (y : BitVec 3)
  /-- RST p (R392; base:op) -/
  | rst (t : BitVec 3)
  /-- RST p (index prefix has no effect) (R392; index:X op) -/
  | rstX (x : Idx) (t : BitVec 3)
  /-- IN A,(n) (R411; base:op n) -/
  | inAN (n : Byte)
  /-- IN A,(n) (index prefix has no effect) (R411; index:X op n) -/
  | inANX (x : Idx) (n : Byte)
  /-- IN r,(C) (R412; extended:ED op) -/
  | inRC (r : Reg8)
  /-- OUT (n),A (R418; base:op n) -/
  | outNA (n : Byte)
  /-- OUT (n),A (index prefix has no effect) (R418; index:X op n) -/
  | outNAX (x : Idx) (n : Byte)
  /-- OUT (C),r (R419; extended:ED op) -/
  | outCR (r : Reg8)
  /-- TEST n (R443; extended:ED op n) -/
  | testN (n : Byte)
  /-- ADD HL,nn (R453; extended:ED op lo hi) -/
  | addHlNn (nn : Word)
  /-- ADD DE,nn (R454; extended:ED op lo hi) -/
  | addDeNn (nn : Word)
  /-- ADD BC,nn (R455; extended:ED op lo hi) -/
  | addBcNn (nn : Word)
  /-- PUSH nn (R456; extended:ED op hi lo) -/
  | pushNn (nn : Word)
  /-- NEXTREG n,v (R458; extended:ED op n v) -/
  | nextregN (n : Byte) (v : Byte)
  /-- NEXTREG n,A (R459; extended:ED op n) -/
  | nextregA (n : Byte)
  /-- prefix CB (index+bit) (R102, R103; index:X op) -/
  | prefixCBX (x : Idx)
  /-- prefix after index prefix (R102; index:X op) -/
  | prefixAfterX (x : Idx) (px : IdxPrefix)
  /-- LD A,(BC) (R188; base:op) -/
  | ldABc
  /-- LD A,(DE) (R189; base:op) -/
  | ldADe
  /-- LD (BC),A (R191; base:op) -/
  | ldBcA
  /-- LD (DE),A (R192; base:op) -/
  | ldDeA
  /-- LD A,I (R194; extended:ED op) -/
  | ldAI
  /-- LD A,R (R195; extended:ED op) -/
  | ldAR
  /-- LD I,A (R196; extended:ED op) -/
  | ldIA
  /-- LD R,A (R197; extended:ED op) -/
  | ldRA
  /-- LD SP,HL (R203; base:op) -/
  | ldSpHl
  /-- EX DE,HL (R230; base:op) -/
  | exDeHl
  /-- EX AF,AF' (R231; base:op) -/
  | exAf
  /-- EXX (R232; base:op) -/
  | exx
  /-- EX (SP),HL (R233; base:op) -/
  | exSpHl
  /-- LDI (R234; extended:ED op) -/
  | ldi
  /-- LDIR (R235; extended:ED op) -/
  | ldir
  /-- LDD (R236; extended:ED op) -/
  | ldd
  /-- LDDR (R237; extended:ED op) -/
  | lddr
  /-- CPI (R238; extended:ED op) -/
  | cpi
  /-- CPIR (R239; extended:ED op) -/
  | cpir
  /-- CPD (R240; extended:ED op) -/
  | cpd
  /-- CPDR (R241; extended:ED op) -/
  | cpdr
  /-- ADD A,(HL) (R261; base:op) -/
  | addMHl
  /-- ADC A,(HL) (R262; base:op) -/
  | adcMHl
  /-- SUB (HL) (R263; base:op) -/
  | subMHl
  /-- SBC A,(HL) (R264; base:op) -/
  | sbcMHl
  /-- AND (HL) (R265; base:op) -/
  | andMHl
  /-- XOR (HL) (R266; base:op) -/
  | xorMHl
  /-- OR (HL) (R267; base:op) -/
  | orMHl
  /-- CP (HL) (R268; base:op) -/
  | cpMHl
  /-- INC (HL) (R270; base:op) -/
  | incMHl
  /-- DEC (HL) (R272; base:op) -/
  | decMHl
  /-- DAA (R290; base:op) -/
  | daa
  /-- CPL (R291; base:op) -/
  | cpl
  /-- CCF (R293; base:op) -/
  | ccf
  /-- SCF (R294; base:op) -/
  | scf
  /-- NOP (R295; base:op) -/
  | nop
  /-- HALT (R296; base:op) -/
  | halt
  /-- DI (R297; base:op) -/
  | di
  /-- EI (R298; base:op) -/
  | ei
  /-- RLCA (R340; base:op) -/
  | rlca
  /-- RLA (R341; base:op) -/
  | rla
  /-- RRCA (R342; base:op) -/
  | rrca
  /-- RRA (R343; base:op) -/
  | rra
  /-- RLC (HL) (R345; bit:CB op) -/
  | rlcMHl
  /-- RRC (HL) (R347; bit:CB op) -/
  | rrcMHl
  /-- RL (HL) (R346; bit:CB op) -/
  | rlMHl
  /-- RR (HL) (R348; bit:CB op) -/
  | rrMHl
  /-- SLA (HL) (R349; bit:CB op) -/
  | slaMHl
  /-- SRA (HL) (R350; bit:CB op) -/
  | sraMHl
  /-- SLL (HL) (R351; bit:CB op) -/
  | sllMHl
  /-- SRL (HL) (R352; bit:CB op) -/
  | srlMHl
  /-- RLD (R353; extended:ED op) -/
  | rld
  /-- RRD (R354; extended:ED op) -/
  | rrd
  /-- JP (HL) (R384; base:op) -/
  | jpHl
  /-- RET (R388; base:op) -/
  | ret
  /-- RETI (R390; extended:ED op) -/
  | reti
  /-- IN F,(C) (R413; extended:ED op) -/
  | inFC
  /-- INI (R414; extended:ED op) -/
  | ini
  /-- INIR (R415; extended:ED op) -/
  | inir
  /-- IND (R416; extended:ED op) -/
  | ind
  /-- INDR (R417; extended:ED op) -/
  | indr
  /-- OUT (C),0 (R420; extended:ED op) -/
  | outC0
  /-- OUTI (R421; extended:ED op) -/
  | outi
  /-- OTIR (R422; extended:ED op) -/
  | otir
  /-- OUTD (R423; extended:ED op) -/
  | outd
  /-- OTDR (R424; extended:ED op) -/
  | otdr
  /-- SWAPNIB (R441; extended:ED op) -/
  | swapnib
  /-- MIRROR A (R442; extended:ED op) -/
  | mirrorA
  /-- BSLA DE,B (R444; extended:ED op) -/
  | bsla
  /-- BSRA DE,B (R445; extended:ED op) -/
  | bsra
  /-- BSRL DE,B (R446; extended:ED op) -/
  | bsrl
  /-- BSRF DE,B (R447; extended:ED op) -/
  | bsrf
  /-- BRLC DE,B (R448; extended:ED op) -/
  | brlc
  /-- MUL D,E (R449; extended:ED op) -/
  | mulDE
  /-- ADD HL,A (R450; extended:ED op) -/
  | addHlA
  /-- ADD DE,A (R451; extended:ED op) -/
  | addDeA
  /-- ADD BC,A (R452; extended:ED op) -/
  | addBcA
  /-- OUTINB (R457; extended:ED op) -/
  | outinb
  /-- PIXELDN (R460; extended:ED op) -/
  | pixeldn
  /-- PIXELAD (R461; extended:ED op) -/
  | pixelad
  /-- SETAE (R462; extended:ED op) -/
  | setae
  /-- JP (C) (R463; extended:ED op) -/
  | jpC
  /-- LDIX (R464; extended:ED op) -/
  | ldix
  /-- LDWS (R465; extended:ED op) -/
  | ldws
  /-- LDDX (R466; extended:ED op) -/
  | lddx
  /-- LDIRX (R467; extended:ED op) -/
  | ldirx
  /-- LDPIRX (R468; extended:ED op) -/
  | ldpirx
  /-- LDDRX (R469; extended:ED op) -/
  | lddrx
  /-- prefix CB (R102; base:op) -/
  | prefixCB
  /-- prefix DD (R102; base:op) -/
  | prefixDD
  /-- prefix ED (R102; base:op) -/
  | prefixED
  /-- prefix FD (R102; base:op) -/
  | prefixFD
  deriving DecidableEq, Repr

end Sys2Proof
end

