-- ==== Sys2Proof/Machine/State.lean ====
section
/-! DEFINITION. The state of the core (R20 to R37, R42), the default RAM and the record of the device calls (R64, R66,
R499), and the ways a call or a host operation can end. -/

namespace Sys2Proof.Machine

/-- Interrupt mode `IM` (R32): the legal values 0, 1 and 2. -/
inductive IntMode where
  | m0
  | m1
  | m2
  deriving DecidableEq, Repr

/-- The 64 KiB RAM of R60 and R66 as (address, byte) pairs in the canonical form `Memory.wf`. -/
abbrev Memory := List Host.Cell

/-- The state of one core, of its default RAM, and the record of its device calls, which is what a device can know of it.
Each pair is stored once; its halves are computed (R21). -/
structure State where
  /-- accumulator and flags, AF = {A, F} (R20, R22) -/
  af : Word
  /-- BC = {B, C} (R20) -/
  bc : Word
  /-- DE = {D, E} (R20) -/
  de : Word
  /-- HL = {H, L} (R20) -/
  hl : Word
  /-- alternate bank AF' (R23) -/
  afAlt : Word
  /-- alternate bank BC' (R23) -/
  bcAlt : Word
  /-- alternate bank DE' (R23) -/
  deAlt : Word
  /-- alternate bank HL' (R23) -/
  hlAlt : Word
  /-- index register IX (R24) -/
  ix : Word
  /-- index register IY (R24) -/
  iy : Word
  /-- stack pointer SP (R25) -/
  sp : Word
  /-- program counter PC (R26) -/
  pc : Word
  /-- scratch register WZ (R27) -/
  wz : Word
  /-- interrupt-vector base I (R28) -/
  i : Byte
  /-- refresh register R (R29) -/
  r : Byte
  /-- interrupt-enable flip-flop IFF1 (R31) -/
  iff1 : Bool
  /-- interrupt-enable flip-flop IFF2 (R31) -/
  iff2 : Bool
  /-- interrupt mode IM (R32) -/
  im : IntMode
  /-- signal flag RESET (R33) -/
  resetSig : Bool
  /-- signal flag HALTED (R33) -/
  halted : Bool
  /-- signal flag NMI (R33) -/
  nmi : Bool
  /-- signal flag INT (R33) -/
  int : Bool
  /-- decoder state: `prefixMode` and `indexMode` together (R34, R100) -/
  dec : DecoderState
  /-- interrupt-blocked latch (R35) -/
  intBlocked : Bool
  /-- trace: the opcode byte being dispatched (R36) -/
  opcode : Byte
  /-- trace: the raw bytes of the in-flight instruction, oldest first (R36) -/
  instrBytes : List Byte
  /-- trace: the PC at the first fetch of the current instruction (R36) -/
  instrStart : Word
  /-- trace: the start of the previous completed instruction (R36) -/
  prevPC : Word
  /-- tick counter (R37) -/
  ticks : Nat
  /-- the contents of the default memory device, plain 64 KiB RAM (R60, R66); not used where `MEM` is external -/
  mem : Memory
  /-- every call to a device, of the core and of the host's raw accesses, newest first (R12, R64, R66, R499) -/
  deviceCalls : List DeviceCall
  /-- MODEL'S OWN field: how many port reads have been made, the index of the next free value (log entry 3) -/
  portDraws : Nat
  /-- the construction-time configuration (R8, R39); no step and no host operation changes it -/
  cfg : Config
  deriving DecidableEq, Repr

/-- `prefixMode` of R34. -/
inductive PrefixMode where
  | none
  | extended
  | bit
  deriving DecidableEq, Repr

/-- `prefixMode`, read from the decoder state by the table of R100. -/
def State.prefixMode (s : State) : PrefixMode :=
  match s.dec with
  | .idle => .none
  | .indexPending _ => .none
  | .bitPending => .bit
  | .extendedPending => .extended
  | .indexBitPending _ => .bit

/-- `indexMode`, read from the decoder state by the table of R100 (`none` where no index prefix is pending). -/
def State.indexMode (s : State) : Option Idx :=
  match s.dec with
  | .idle => none
  | .indexPending x => some x
  | .bitPending => none
  | .extendedPending => none
  | .indexBitPending x => some x

/-- The port device's record of its accesses, newest first (R66). -/
def State.portTrace (s : State) : List DeviceCall := s.deviceCalls.filter DeviceCall.isPort

/-- The calls the extended-register device received, newest first (R499). -/
def State.extCalls (s : State) : List DeviceCall := s.deviceCalls.filter DeviceCall.isExtReg

/-- `INITIAL_REGS` (R8, R42; D13): the registers that no reset rule sets, and the trace fields that R42 leaves
unspecified. -/
structure InitialRegs where
  af : Word
  bc : Word
  de : Word
  hl : Word
  afAlt : Word
  bcAlt : Word
  deAlt : Word
  hlAlt : Word
  ix : Word
  iy : Word
  sp : Word
  wz : Word
  opcode : Byte
  instrStart : Word
  prevPC : Word
  deriving DecidableEq, Repr

/-- DESIGN CHOICE (log entry 1, unsafe): every register that the spec draws at construction is 0. -/
def InitialRegs.zero : InitialRegs :=
  { af := 0, bc := 0, de := 0, hl := 0, afAlt := 0, bcAlt := 0, deAlt := 0, hlAlt := 0, ix := 0, iy := 0, sp := 0,
    wz := 0, opcode := 0, instrStart := 0, prevPC := 0 }

/-- Construction (R532; D30): the reset state of R42, with the registers of `INITIAL_REGS` and the devices of `cfg`, which
no `Config` lacks (R9), as they are before any access. -/
def State.construct (cfg : Config) (g : InitialRegs) : State :=
  { af := g.af, bc := g.bc, de := g.de, hl := g.hl, afAlt := g.afAlt, bcAlt := g.bcAlt, deAlt := g.deAlt,
    hlAlt := g.hlAlt, ix := g.ix, iy := g.iy, sp := g.sp, pc := 0x0000, wz := g.wz, i := 0x00, r := 0x00,
    iff1 := false, iff2 := false, im := .m0, resetSig := false, halted := false, nmi := false, int := false,
    dec := .idle, intBlocked := false, opcode := g.opcode, instrBytes := [], instrStart := g.instrStart,
    prevPC := g.prevPC, ticks := 0, mem := [], deviceCalls := [], portDraws := 0, cfg := cfg }

/-- The machine right after reset: construction with the default configuration (R42, R532, R533). -/
def State.reset : State := State.construct Config.default InitialRegs.zero

/-- Run-time faults: none. R480: "A model therefore has no fault state for the core". The type has no constructor, so
no call can end in a fault (safe: nothing is stopped that the core runs). -/
inductive Fault where
  deriving DecidableEq, Repr

/-- Why a request is refused. -/
inductive Refusal where
  /-- raised by an arm of `exec` whose instruction has no meaning yet: no arm raises it in this model (safe) -/
  | notModelled (mnemonic : String)
  /-- raised by the host operation "set interrupt mode" for a mode of 3 or more (R32, R515; D14): the spec refuses the
  request and `IM` keeps its value (safe) -/
  | interruptModeOutOfRange
  /-- raised by the host operation "restore state snapshot" for a snapshot of another configuration (R515,
  93_implementation_defined I14): the spec does not model it (safe) -/
  | snapshotOfAnotherConfiguration
  deriving DecidableEq, Repr

/-- How a call or an instruction's meaning ends. -/
abbrev Out := Host.Outcome State Fault Refusal

end Sys2Proof.Machine
end

