-- ==== Sys2Proof/Machine/Ops.lean ====
section
/-! DEFINITION. The named operations every instruction and service is made of: memory, registers, the stack, the port
and extended-register devices, the tick counter, entering a prefix state, the signal services (the core's only
exceptions) with the return from them, and the reset sequence. -/

namespace Sys2Proof.Machine

/-! ### Memory (R60, R62 to R66) -/

/-- What an address nothing has written reads as: DESIGN CHOICE (log entry 2, unsafe). -/
def Memory.unlisted : Byte := 0x00

/-- The byte the RAM holds at address `a`. -/
def Memory.read : Memory → Nat → Byte
  | [], _ => Memory.unlisted
  | (b, w) :: m, a => if a = b then w else Memory.read m a

/-- Storing `v` at address `a`: the list stays sorted, and storing the unlisted value removes the entry. -/
def Memory.write : Memory → Nat → Byte → Memory
  | [], a, v => if v = Memory.unlisted then [] else [(a, v)]
  | (b, w) :: m, a, v =>
    if a < b then (if v = Memory.unlisted then (b, w) :: m else (a, v) :: (b, w) :: m)
    else if a = b then (if v = Memory.unlisted then m else (a, v) :: m)
    else (b, w) :: Memory.write m a v

/-- The canonical form from address `lo` on: addresses rise strictly and lie below 2^16, and no entry equals what an
unlisted address reads as. -/
def Memory.wfFrom (lo : Nat) : Memory → Bool
  | [] => true
  | (b, w) :: m => decide (lo ≤ b) && decide (b < 65536) && decide (w ≠ Memory.unlisted) && Memory.wfFrom (b + 1) m

/-- The canonical form of the whole memory. -/
def Memory.wf (m : Memory) : Bool := Memory.wfFrom 0 m

/-- Recording a device call. -/
def State.called (s : State) (c : DeviceCall) : State := { s with deviceCalls := c :: s.deviceCalls }

/-- The byte `MemRead(a, 1)` returns now: what the memory device answers (R12, R66). The call is made by
`State.afterRead`. -/
def State.read (s : State) (a : Word) : Byte :=
  match s.cfg.memDevice with
  | .ram => Memory.read s.mem a.toNat
  | .external k => Config.memAnswer k s.deviceCalls a

/-- The state after `MemRead(a, 1)`: the device has been called (R12, R64). -/
def State.afterRead (s : State) (a : Word) : State := s.called (.memRead a (s.read a))

/-- The RAM after storing `v` at `a`; where the memory device is external there is no RAM to change. -/
def State.memWith (s : State) (a : Word) (v : Byte) : Memory :=
  match s.cfg.memDevice with
  | .ram => Memory.write s.mem a.toNat v
  | .external _ => s.mem

/-- `MemWrite(a, 1, v)` (R12): the device is called, and the default RAM holds `v` (R66). -/
def State.write (s : State) (a : Word) (v : Byte) : State :=
  { s with mem := s.memWith a v, deviceCalls := .memWrite a v :: s.deviceCalls }

/-- The value of `MemRead16(a)`: the low byte is read at `a` first, then the high byte at `(a + 1) mod 2^16` (R12, R62,
R63). -/
def State.read16 (s : State) (a : Word) : Word := joinBytes ((s.afterRead a).read (a + 1)) (s.read a)

/-- The state after `MemRead16(a)`. -/
def State.afterRead16 (s : State) (a : Word) : State := (s.afterRead a).afterRead (a + 1)

/-- `MemWrite16(a, v)`: the low byte first (R12). -/
def State.write16 (s : State) (a v : Word) : State := (s.write a (loByte v)).write (a + 1) (hiByte v)

/-! ### Registers (R20 to R31) -/

/-- The accumulator A (R20). -/
def State.a (s : State) : Byte := hiByte s.af
/-- The flag register F (R22). -/
def State.f (s : State) : Byte := loByte s.af
/-- The register B (R20). -/
def State.b (s : State) : Byte := hiByte s.bc
/-- The register C (R20). -/
def State.c (s : State) : Byte := loByte s.bc

/-- `A <- v` (R21). -/
def State.setA (s : State) (v : Byte) : State := { s with af := setHiByte s.af v }
/-- `F <- v` (R21). -/
def State.setF (s : State) (v : Byte) : State := { s with af := setLoByte s.af v }
/-- `(A, F) <- v`. -/
def State.setAF (s : State) (v : Byte × Byte) : State := { s with af := joinBytes v.1 v.2 }
/-- `BC <- v`. -/
def State.setBc (s : State) (v : Word) : State := { s with bc := v }
/-- `DE <- v`. -/
def State.setDe (s : State) (v : Word) : State := { s with de := v }
/-- `HL <- v`. -/
def State.setHl (s : State) (v : Word) : State := { s with hl := v }
/-- `SP <- v` (R25). -/
def State.setSp (s : State) (v : Word) : State := { s with sp := v }
/-- `PC <- v` (R26). -/
def State.setPc (s : State) (v : Word) : State := { s with pc := v }
/-- `WZ <- v` (R27). -/
def State.setWz (s : State) (v : Word) : State := { s with wz := v }
/-- `I <- v` (R28). -/
def State.setI (s : State) (v : Byte) : State := { s with i := v }
/-- `R <- v` (R29). -/
def State.setR (s : State) (v : Byte) : State := { s with r := v }
/-- `IFF1 <- v; IFF2 <- v` (R31). -/
def State.setIffs (s : State) (v : Bool) : State := { s with iff1 := v, iff2 := v }
/-- `IM <- m` (R32). -/
def State.setIm (s : State) (m : IntMode) : State := { s with im := m }

/-- `PC <- target; WZ <- target`: the jump of JP, JR, CALL, RST and the acknowledges. -/
def State.jump (s : State) (target : Word) : State := { s with pc := target, wz := target }

/-- The refresh update of R (R30). -/
def State.refresh (s : State) : State := { s with r := refreshNext s.r }

/-- `Tick(n)` (R12, R37). -/
def State.tick (s : State) (n : Nat) : State := { s with ticks := s.ticks + n }

/-- What remains of an instruction's `total` ticks after `fetches` opcode fetches of 4 ticks each have charged theirs
(R104, R545). -/
def State.charge (s : State) (total fetches : Nat) : State := s.tick (total - 4 * fetches)

/-! ### Stack (R12, R25) -/

/-- `Push16(v)`: the high byte at SP - 1, then the low byte at SP - 2. -/
def State.push16 (s : State) (v : Word) : State :=
  { (s.write (s.sp - 1) (hiByte v)).write (s.sp - 2) (loByte v) with sp := s.sp - 2 }

/-- The value `Pop16()` returns: the word at SP, low byte first. -/
def State.stackTop (s : State) : Word := s.read16 s.sp

/-- The state `Pop16()` leaves: two bytes read, SP raised by 2. -/
def State.popped (s : State) : State := { s.afterRead16 s.sp with sp := s.sp + 2 }

/-! ### Devices (R61, R66, R499) -/

/-- The byte `PortRead(port)` returns now: what the port device answers, by default its next draw (R66). -/
def State.portIn (s : State) (port : Word) : Byte :=
  match s.cfg.portDevice with
  | .draws => Config.portDraw s.portDraws port
  | .external k => Config.portAnswer k s.deviceCalls port

/-- The state after `PortRead(port)`: the access is recorded and the draw is used up. -/
def State.portRead (s : State) (port : Word) : State :=
  { s with deviceCalls := .portRead port (s.portIn port) :: s.deviceCalls, portDraws := s.portDraws + 1 }

/-- `PortWrite(port, v)`: the device records the write. -/
def State.portWrite (s : State) (port : Word) (v : Byte) : State := s.called (.portWrite port v)

/-- `select(reg)` then `setValue(v)` on the extended-register device, skipped where the device is absent (R458; D18). -/
def State.extRegWrite (s : State) (reg v : Byte) : State :=
  if s.cfg.extRegDevice then (s.called (.extSelect reg)).called (.extSetValue v) else s

/-! ### Decoder (R102) -/

/-- A call that consumes a prefix byte: the next decoder state, and `intBlocked <- 1` (R102). -/
def State.enterPrefix (s : State) (next : DecoderState) : State := { s with dec := next, intBlocked := true }

/-! ### Halt (R296, R487, R494) -/

/-- HALT: `HALTED <- 1; PC <- PC - 1` (R296). -/
def State.haltHere (s : State) : State := { s with halted := true, pc := s.pc - 1 }

/-- "if HALTED: HALTED <- 0; PC <- PC + 1" (R487, R491, R515). -/
def State.leaveHalt (s : State) : State := if s.halted then { s with halted := false, pc := s.pc + 1 } else s

/-! ### Signal services: the core's exceptions (R487 to R493) -/

/-- The common tail of both acknowledges (R487, R491): the refresh of `R_INC_ON_ACK`, the push of PC, the jump to the
vector with WZ, and the ticks. `vector` answers the vector and the state after reading it; it comes after the push, in
the order of R487. -/
def State.enterHandler (s : State) (vector : State → Word × State) (cost : Nat) : State :=
  let s1 := if s.cfg.rIncOnAck then s.refresh else s
  let v := vector (s1.push16 s1.pc)
  (v.2.jump v.1).tick cost

/-- The vector selection of R489: 0x0038 in modes 0 and 1, the word read at `{I, 0xFF}` in mode 2. -/
def intVector (s : State) : Word × State :=
  match s.im with
  | .m0 => (0x0038, s)
  | .m1 => (0x0038, s)
  | .m2 => (s.read16 (joinBytes s.i 0xFF), s.afterRead16 (joinBytes s.i 0xFF))

/-- The ticks of the whole maskable acknowledge (R489). -/
def intCost : IntMode → Nat
  | .m0 => 13
  | .m1 => 13
  | .m2 => 19

/-- Maskable interrupt acknowledge, `AcceptINT` (R487). INT stays pending (R482). -/
def State.acceptInt (s : State) : State := (s.leaveHalt.setIffs false).enterHandler intVector (intCost s.im)

/-- Non-maskable interrupt acknowledge, `AcceptNMI` (R491). -/
def State.acceptNmi (s : State) : State :=
  let s1 := if s.cfg.nmiAutoclear then { s with nmi := false } else s
  let s2 := s1.leaveHalt
  { s2 with iff2 := s2.iff1, iff1 := false }.enterHandler (fun t => (0x0066, t)) 11

/-- `HaltedSpin` (R493): refresh, unblock, 4 ticks; nothing is fetched and PC stays. -/
def State.haltedSpin (s : State) : State := { s.refresh with intBlocked := false }.tick 4

/-- The reset sequence (R530). Every register it does not name is unchanged, memory and the devices too. -/
def State.resetSequence (s : State) : State :=
  { s with iff1 := false, iff2 := false, im := .m0, dec := .idle, instrBytes := [], pc := 0x0000, i := 0x00, r := 0x00,
           ticks := 0, resetSig := false, halted := false, nmi := false, int := false, intBlocked := false }

/-- The return of RETI and RETN (R390, R391): `PC <- Pop16(); WZ <- PC; IFF1 <- IFF2`. -/
def State.returnFromInterrupt (s : State) : State := { s.popped.jump s.stackTop with iff1 := s.iff2 }

/-- The four signal services of R484. -/
inductive Service where
  | acceptInt
  | haltedSpin
  | reset
  | acceptNmi
  deriving DecidableEq, Repr

/-- INT's acceptance condition (R486). -/
def State.intAcceptable (s : State) : Bool := s.int && s.iff1 && !s.intBlocked

/-- The service of an Idle call: the first clause of R484 that holds, in the order of `SIGNAL_ORDER`. -/
def State.serviceInOrder (s : State) : Option Service :=
  match s.cfg.signalOrder with
  | .doc =>
    if s.intAcceptable then some .acceptInt
    else if s.halted then some .haltedSpin
    else if s.resetSig then some .reset
    else if s.nmi then some .acceptNmi
    else none
  | .z80 =>
    if s.resetSig then some .reset
    else if s.nmi then some .acceptNmi
    else if s.intAcceptable then some .acceptInt
    else if s.halted then some .haltedSpin
    else none

/-- The service this call performs, if any: signals are examined only when the decoder is Idle (R101, R483). -/
def State.pendingService (s : State) : Option Service := if s.dec = .idle then s.serviceInOrder else none

/-- Performing a service. -/
def State.serve (s : State) : Service → State
  | .acceptInt => s.acceptInt
  | .haltedSpin => s.haltedSpin
  | .reset => s.resetSequence
  | .acceptNmi => s.acceptNmi

end Sys2Proof.Machine
end

