-- ==== Sys2Proof/Machine/Operands.lean ====
section
/-! DEFINITION. The operand forms (R93 to R97, R260, R344), the conditions (R95), and the operations families share over
them. -/

namespace Sys2Proof.Machine

/-! ### Register selectors (R93, R94) -/

/-- Reading `r8[s]`, no-index column of R93. -/
def State.r8 (s : State) : Reg8 → Byte
  | .b => hiByte s.bc
  | .c => loByte s.bc
  | .d => hiByte s.de
  | .e => loByte s.de
  | .h => hiByte s.hl
  | .l => loByte s.hl
  | .a => hiByte s.af

/-- `r8[s] <- v`, no-index column of R93. -/
def State.setR8 (s : State) (r : Reg8) (v : Byte) : State :=
  match r with
  | .b => { s with bc := setHiByte s.bc v }
  | .c => { s with bc := setLoByte s.bc v }
  | .d => { s with de := setHiByte s.de v }
  | .e => { s with de := setLoByte s.de v }
  | .h => { s with hl := setHiByte s.hl v }
  | .l => { s with hl := setLoByte s.hl v }
  | .a => { s with af := setHiByte s.af v }

/-- The index register X (R24). -/
def State.idx (s : State) : Idx → Word
  | .ix => s.ix
  | .iy => s.iy

/-- `X <- v` (R24). -/
def State.setIdx (s : State) (x : Idx) (v : Word) : State :=
  match x with
  | .ix => { s with ix := v }
  | .iy => { s with iy := v }

/-- XH or XL (R24). -/
def State.half (s : State) (x : Idx) : Half → Byte
  | .high => hiByte (s.idx x)
  | .low => loByte (s.idx x)

/-- `XH <- v` or `XL <- v` (R24). -/
def State.setHalf (s : State) (x : Idx) (h : Half) (v : Byte) : State :=
  match h with
  | .high => s.setIdx x (setHiByte (s.idx x) v)
  | .low => s.setIdx x (setLoByte (s.idx x) v)

/-- Reading `r8[s]` in index mode X without a memory operand: 4 is XH and 5 is XL (R93). -/
def State.r8X (s : State) (x : Idx) : Reg8 → Byte
  | .h => s.half x .high
  | .l => s.half x .low
  | .b => s.r8 .b
  | .c => s.r8 .c
  | .d => s.r8 .d
  | .e => s.r8 .e
  | .a => s.r8 .a

/-- `r8[s] <- v` in index mode X without a memory operand (R93). -/
def State.setR8X (s : State) (x : Idx) (r : Reg8) (v : Byte) : State :=
  match r with
  | .h => s.setHalf x .high v
  | .l => s.setHalf x .low v
  | .b => s.setR8 .b v
  | .c => s.setR8 .c v
  | .d => s.setR8 .d v
  | .e => s.setR8 .e v
  | .a => s.setR8 .a v

/-- Reading `rp[p]` (R94). -/
def State.rp (s : State) : Rp → Word
  | .bc => s.bc
  | .de => s.de
  | .hl => s.hl
  | .sp => s.sp

/-- `rp[p] <- v` (R94). -/
def State.setRp (s : State) (p : Rp) (v : Word) : State :=
  match p with
  | .bc => s.setBc v
  | .de => s.setDe v
  | .hl => s.setHl v
  | .sp => s.setSp v

/-- Reading `rp[p]` in index mode X: p = 2 is X (R94, R320). -/
def State.rpX (s : State) (x : Idx) : Rp → Word
  | .bc => s.bc
  | .de => s.de
  | .hl => s.idx x
  | .sp => s.sp

/-- Reading `rp2[p]` (R94). -/
def State.rp2 (s : State) : Rp2 → Word
  | .bc => s.bc
  | .de => s.de
  | .hl => s.hl
  | .af => s.af

/-- `rp2[p] <- v` (R94); writing AF writes all 8 bits of F (R205). -/
def State.setRp2 (s : State) (q : Rp2) (v : Word) : State :=
  match q with
  | .bc => s.setBc v
  | .de => s.setDe v
  | .hl => s.setHl v
  | .af => { s with af := v }

/-- The displacement address `(X + sext_8(d)) mod 2^16` (R96). -/
def State.ea (s : State) (x : Idx) (d : Byte) : Word := s.idx x + sext8 d

/-- `cond(c)` on F (R95). -/
def State.cond (s : State) : Cond → Bool
  | .nz => !fZ s.f
  | .z => fZ s.f
  | .nc => !fC s.f
  | .c => fC s.f
  | .po => !fPV s.f
  | .pe => fPV s.f
  | .p => !fS s.f
  | .m => fS s.f

/-- The mode `IM m` selects: the opcode's bits 5:3 with the duplicates of R299 to R301. -/
def imOfSel (y : BitVec 3) : IntMode :=
  match y.extractLsb' 0 2 with
  | 2 => .m1
  | 3 => .m2
  | _ => .m0

/-- RST's target `8 * t` (R392). -/
def rstTarget (t : BitVec 3) : Word := t.setWidth 16 <<< 3

/-! ### Shared operations over operand forms -/

/-- The eight accumulator operations of R260. -/
inductive AluKind where
  | add
  | adc
  | sub
  | sbc
  | and
  | xor
  | or
  | cp
  deriving DecidableEq, Repr

/-- The new (A, F) of an accumulator operation on A = `a`, operand `v` and flags `f` (R261 to R268). CP keeps A. -/
def aluResult (k : AluKind) (a v f : Byte) : Byte × Byte :=
  match k with
  | .add => add8 a v false
  | .adc => add8 a v (fC f)
  | .sub => sub8 a v false
  | .sbc => sub8 a v (fC f)
  | .and => (a &&& v, logicFlags (a &&& v) true)
  | .xor => (a ^^^ v, logicFlags (a ^^^ v) false)
  | .or => (a ||| v, logicFlags (a ||| v) false)
  | .cp => (a, cp8 a v)

/-- An accumulator operation on the operand `v` (R260). -/
def State.alu (s : State) (k : AluKind) (v : Byte) : State := s.setAF (aluResult k s.a v s.f)

/-- The same on the byte read at `a` (R260). -/
def State.aluMem (s : State) (k : AluKind) (a : Word) : State := (s.afterRead a).alu k (s.read a)

/-- The same on the byte read at (X+d), which is left in WZ (R96, R260). -/
def State.aluXd (s : State) (k : AluKind) (x : Idx) (d : Byte) : State := (s.setWz (s.ea x d)).aluMem k (s.ea x d)

/-- `(r, F) <- g(r, F)`: the register form of INC, DEC and the bit-table operations (R269, R344). -/
def State.modR8 (s : State) (r : Reg8) (g : Byte → Byte → Byte × Byte) : State :=
  (s.setR8 r (g (s.r8 r) s.f).1).setF (g (s.r8 r) s.f).2

/-- The same on XH or XL (R269 under DD/FD). -/
def State.modHalf (s : State) (x : Idx) (h : Half) (g : Byte → Byte → Byte × Byte) : State :=
  (s.setHalf x h (g (s.half x h) s.f).1).setF (g (s.half x h) s.f).2

/-- The memory form: read, operate, write back (R270, R344). -/
def State.modMem (s : State) (a : Word) (g : Byte → Byte → Byte × Byte) : State :=
  ((s.afterRead a).write a (g (s.read a) s.f).1).setF (g (s.read a) s.f).2

/-- The (X+d) form of the index+bit table, `WZ <- ea` included (R103, R344). -/
def State.modXd (s : State) (x : Idx) (d : Byte) (g : Byte → Byte → Byte × Byte) : State :=
  (s.setWz (s.ea x d)).modMem (s.ea x d) g

/-- The (X+d) form that also copies the result to `r8[s]` (R111, R344). -/
def State.modXdCopy (s : State) (x : Idx) (d : Byte) (r : Reg8) (g : Byte → Byte → Byte × Byte) : State :=
  (s.modXd x d g).setR8 r (g (s.read (s.ea x d)) s.f).1

/-- The repeat step of a block instruction (R235, R239, R415): while `again` holds of the state after the body,
`PC <- PC - 2; WZ <- PC + 1`, 21 ticks; otherwise 16. -/
def State.repeatWhile (s : State) (again : State → Bool) : State :=
  if again s then { s with pc := s.pc - 2, wz := s.pc - 2 + 1 }.charge 21 2 else s.charge 16 2

/-- The repeat step of the Z80N block instructions, which leave WZ alone (R467 to R469). -/
def State.repeatKeepWz (s : State) (again : State → Bool) : State :=
  if again s then { s with pc := s.pc - 2 }.charge 21 2 else s.charge 16 2

end Sys2Proof.Machine
end

