-- ==== Sys2Proof/Machine/Arith16.lean ====
section
/-! DEFINITION. 45_arith16.md: 16-bit arithmetic. -/

namespace Sys2Proof.Machine

/-- ADD HL,ss (R320; 11 ticks). -/
def execAddHlRp (p : Rp) (s : State) : Out :=
  .next ((((s.setWz (s.hl + 1)).setHl (add16 s.hl (s.rp p) s.f).1).setF (add16 s.hl (s.rp p) s.f).2).charge 11 1)

/-- ADD X,pp (R320; 15 ticks). -/
def execAddXRp (x : Idx) (p : Rp) (s : State) : Out :=
  .next ((((s.setWz (s.idx x + 1)).setIdx x (add16 (s.idx x) (s.rpX x p) s.f).1).setF (add16 (s.idx x) (s.rpX x p) s.f).2).charge 15 2)

/-- ADC HL,ss (R321; 15 ticks). -/
def execAdcHlRp (p : Rp) (s : State) : Out :=
  .next ((((s.setWz (s.hl + 1)).setHl (adc16 s.hl (s.rp p) (fC s.f)).1).setF (adc16 s.hl (s.rp p) (fC s.f)).2).charge 15 2)

/-- SBC HL,ss (R322; 15 ticks). -/
def execSbcHlRp (p : Rp) (s : State) : Out :=
  .next ((((s.setWz (s.hl + 1)).setHl (sbc16 s.hl (s.rp p) (fC s.f)).1).setF (sbc16 s.hl (s.rp p) (fC s.f)).2).charge 15 2)

/-- INC ss (R323; 6 ticks). -/
def execIncRp (p : Rp) (s : State) : Out := .next ((s.setRp p (s.rp p + 1)).charge 6 1)

/-- INC ss (index prefix has no effect) (R323; 10 ticks). -/
def execIncRpX (_x : Idx) (p : Rp) (s : State) : Out := .next ((s.setRp p (s.rp p + 1)).charge 10 2)

/-- INC X (R323; 10 ticks). -/
def execIncX (x : Idx) (s : State) : Out := .next ((s.setIdx x (s.idx x + 1)).charge 10 2)

/-- DEC ss (R324; 6 ticks). -/
def execDecRp (p : Rp) (s : State) : Out := .next ((s.setRp p (s.rp p - 1)).charge 6 1)

/-- DEC ss (index prefix has no effect) (R324; 10 ticks). -/
def execDecRpX (_x : Idx) (p : Rp) (s : State) : Out := .next ((s.setRp p (s.rp p - 1)).charge 10 2)

/-- DEC X (R324; 10 ticks). -/
def execDecX (x : Idx) (s : State) : Out := .next ((s.setIdx x (s.idx x - 1)).charge 10 2)

end Sys2Proof.Machine
end

