-- ==== Sys2Proof/Machine/Arith8.lean ====
section
/-! DEFINITION. 43_arith8_logic.md: 8-bit arithmetic and logic, INC and DEC. -/

namespace Sys2Proof.Machine

/-- ADD A,r (R261; 4 ticks). -/
def execAddR (r : Reg8) (s : State) : Out := .next ((s.alu .add (s.r8 r)).charge 4 1)

/-- ADD A,r (index prefix has no effect) (R261; 8 ticks). -/
def execAddRX (_x : Idx) (r : Reg8) (s : State) : Out := .next ((s.alu .add (s.r8 r)).charge 8 2)

/-- ADD A,XH/XL (R261; 8 ticks). -/
def execAddXH (x : Idx) (h : Half) (s : State) : Out := .next ((s.alu .add (s.half x h)).charge 8 2)

/-- ADD A,n (R261; 7 ticks). -/
def execAddN (n : Byte) (s : State) : Out := .next ((s.alu .add n).charge 7 1)

/-- ADD A,n (index prefix has no effect) (R261; 11 ticks). -/
def execAddNX (_x : Idx) (n : Byte) (s : State) : Out := .next ((s.alu .add n).charge 11 2)

/-- ADD A,(HL) (R261; 7 ticks). -/
def execAddMHl (s : State) : Out := .next ((s.aluMem .add s.hl).charge 7 1)

/-- ADD A,(X+d) (R261; 19 ticks). -/
def execAddMXd (x : Idx) (d : Byte) (s : State) : Out := .next ((s.aluXd .add x d).charge 19 2)

/-- ADC A,r (R262; 4 ticks). -/
def execAdcR (r : Reg8) (s : State) : Out := .next ((s.alu .adc (s.r8 r)).charge 4 1)

/-- ADC A,r (index prefix has no effect) (R262; 8 ticks). -/
def execAdcRX (_x : Idx) (r : Reg8) (s : State) : Out := .next ((s.alu .adc (s.r8 r)).charge 8 2)

/-- ADC A,XH/XL (R262; 8 ticks). -/
def execAdcXH (x : Idx) (h : Half) (s : State) : Out := .next ((s.alu .adc (s.half x h)).charge 8 2)

/-- ADC A,n (R262; 7 ticks). -/
def execAdcN (n : Byte) (s : State) : Out := .next ((s.alu .adc n).charge 7 1)

/-- ADC A,n (index prefix has no effect) (R262; 11 ticks). -/
def execAdcNX (_x : Idx) (n : Byte) (s : State) : Out := .next ((s.alu .adc n).charge 11 2)

/-- ADC A,(HL) (R262; 7 ticks). -/
def execAdcMHl (s : State) : Out := .next ((s.aluMem .adc s.hl).charge 7 1)

/-- ADC A,(X+d) (R262; 19 ticks). -/
def execAdcMXd (x : Idx) (d : Byte) (s : State) : Out := .next ((s.aluXd .adc x d).charge 19 2)

/-- SUB r (R263; 4 ticks). -/
def execSubR (r : Reg8) (s : State) : Out := .next ((s.alu .sub (s.r8 r)).charge 4 1)

/-- SUB r (index prefix has no effect) (R263; 8 ticks). -/
def execSubRX (_x : Idx) (r : Reg8) (s : State) : Out := .next ((s.alu .sub (s.r8 r)).charge 8 2)

/-- SUB XH/XL (R263; 8 ticks). -/
def execSubXH (x : Idx) (h : Half) (s : State) : Out := .next ((s.alu .sub (s.half x h)).charge 8 2)

/-- SUB n (R263; 7 ticks). -/
def execSubN (n : Byte) (s : State) : Out := .next ((s.alu .sub n).charge 7 1)

/-- SUB n (index prefix has no effect) (R263; 11 ticks). -/
def execSubNX (_x : Idx) (n : Byte) (s : State) : Out := .next ((s.alu .sub n).charge 11 2)

/-- SUB (HL) (R263; 7 ticks). -/
def execSubMHl (s : State) : Out := .next ((s.aluMem .sub s.hl).charge 7 1)

/-- SUB (X+d) (R263; 19 ticks). -/
def execSubMXd (x : Idx) (d : Byte) (s : State) : Out := .next ((s.aluXd .sub x d).charge 19 2)

/-- SBC A,r (R264; 4 ticks). -/
def execSbcR (r : Reg8) (s : State) : Out := .next ((s.alu .sbc (s.r8 r)).charge 4 1)

/-- SBC A,r (index prefix has no effect) (R264; 8 ticks). -/
def execSbcRX (_x : Idx) (r : Reg8) (s : State) : Out := .next ((s.alu .sbc (s.r8 r)).charge 8 2)

/-- SBC A,XH/XL (R264; 8 ticks). -/
def execSbcXH (x : Idx) (h : Half) (s : State) : Out := .next ((s.alu .sbc (s.half x h)).charge 8 2)

/-- SBC A,n (R264; 7 ticks). -/
def execSbcN (n : Byte) (s : State) : Out := .next ((s.alu .sbc n).charge 7 1)

/-- SBC A,n (index prefix has no effect) (R264; 11 ticks). -/
def execSbcNX (_x : Idx) (n : Byte) (s : State) : Out := .next ((s.alu .sbc n).charge 11 2)

/-- SBC A,(HL) (R264; 7 ticks). -/
def execSbcMHl (s : State) : Out := .next ((s.aluMem .sbc s.hl).charge 7 1)

/-- SBC A,(X+d) (R264; 19 ticks). -/
def execSbcMXd (x : Idx) (d : Byte) (s : State) : Out := .next ((s.aluXd .sbc x d).charge 19 2)

/-- AND r (R265; 4 ticks). -/
def execAndR (r : Reg8) (s : State) : Out := .next ((s.alu .and (s.r8 r)).charge 4 1)

/-- AND r (index prefix has no effect) (R265; 8 ticks). -/
def execAndRX (_x : Idx) (r : Reg8) (s : State) : Out := .next ((s.alu .and (s.r8 r)).charge 8 2)

/-- AND XH/XL (R265; 8 ticks). -/
def execAndXH (x : Idx) (h : Half) (s : State) : Out := .next ((s.alu .and (s.half x h)).charge 8 2)

/-- AND n (R265; 7 ticks). -/
def execAndN (n : Byte) (s : State) : Out := .next ((s.alu .and n).charge 7 1)

/-- AND n (index prefix has no effect) (R265; 11 ticks). -/
def execAndNX (_x : Idx) (n : Byte) (s : State) : Out := .next ((s.alu .and n).charge 11 2)

/-- AND (HL) (R265; 7 ticks). -/
def execAndMHl (s : State) : Out := .next ((s.aluMem .and s.hl).charge 7 1)

/-- AND (X+d) (R265; 19 ticks). -/
def execAndMXd (x : Idx) (d : Byte) (s : State) : Out := .next ((s.aluXd .and x d).charge 19 2)

/-- XOR r (R266; 4 ticks). -/
def execXorR (r : Reg8) (s : State) : Out := .next ((s.alu .xor (s.r8 r)).charge 4 1)

/-- XOR r (index prefix has no effect) (R266; 8 ticks). -/
def execXorRX (_x : Idx) (r : Reg8) (s : State) : Out := .next ((s.alu .xor (s.r8 r)).charge 8 2)

/-- XOR XH/XL (R266; 8 ticks). -/
def execXorXH (x : Idx) (h : Half) (s : State) : Out := .next ((s.alu .xor (s.half x h)).charge 8 2)

/-- XOR n (R266; 7 ticks). -/
def execXorN (n : Byte) (s : State) : Out := .next ((s.alu .xor n).charge 7 1)

/-- XOR n (index prefix has no effect) (R266; 11 ticks). -/
def execXorNX (_x : Idx) (n : Byte) (s : State) : Out := .next ((s.alu .xor n).charge 11 2)

/-- XOR (HL) (R266; 7 ticks). -/
def execXorMHl (s : State) : Out := .next ((s.aluMem .xor s.hl).charge 7 1)

/-- XOR (X+d) (R266; 19 ticks). -/
def execXorMXd (x : Idx) (d : Byte) (s : State) : Out := .next ((s.aluXd .xor x d).charge 19 2)

/-- OR r (R267; 4 ticks). -/
def execOrR (r : Reg8) (s : State) : Out := .next ((s.alu .or (s.r8 r)).charge 4 1)

/-- OR r (index prefix has no effect) (R267; 8 ticks). -/
def execOrRX (_x : Idx) (r : Reg8) (s : State) : Out := .next ((s.alu .or (s.r8 r)).charge 8 2)

/-- OR XH/XL (R267; 8 ticks). -/
def execOrXH (x : Idx) (h : Half) (s : State) : Out := .next ((s.alu .or (s.half x h)).charge 8 2)

/-- OR n (R267; 7 ticks). -/
def execOrN (n : Byte) (s : State) : Out := .next ((s.alu .or n).charge 7 1)

/-- OR n (index prefix has no effect) (R267; 11 ticks). -/
def execOrNX (_x : Idx) (n : Byte) (s : State) : Out := .next ((s.alu .or n).charge 11 2)

/-- OR (HL) (R267; 7 ticks). -/
def execOrMHl (s : State) : Out := .next ((s.aluMem .or s.hl).charge 7 1)

/-- OR (X+d) (R267; 19 ticks). -/
def execOrMXd (x : Idx) (d : Byte) (s : State) : Out := .next ((s.aluXd .or x d).charge 19 2)

/-- CP r (R268; 4 ticks). -/
def execCpR (r : Reg8) (s : State) : Out := .next ((s.alu .cp (s.r8 r)).charge 4 1)

/-- CP r (index prefix has no effect) (R268; 8 ticks). -/
def execCpRX (_x : Idx) (r : Reg8) (s : State) : Out := .next ((s.alu .cp (s.r8 r)).charge 8 2)

/-- CP XH/XL (R268; 8 ticks). -/
def execCpXH (x : Idx) (h : Half) (s : State) : Out := .next ((s.alu .cp (s.half x h)).charge 8 2)

/-- CP n (R268; 7 ticks). -/
def execCpN (n : Byte) (s : State) : Out := .next ((s.alu .cp n).charge 7 1)

/-- CP n (index prefix has no effect) (R268; 11 ticks). -/
def execCpNX (_x : Idx) (n : Byte) (s : State) : Out := .next ((s.alu .cp n).charge 11 2)

/-- CP (HL) (R268; 7 ticks). -/
def execCpMHl (s : State) : Out := .next ((s.aluMem .cp s.hl).charge 7 1)

/-- CP (X+d) (R268; 19 ticks). -/
def execCpMXd (x : Idx) (d : Byte) (s : State) : Out := .next ((s.aluXd .cp x d).charge 19 2)

/-- INC r (R269; 4 ticks). -/
def execIncR (r : Reg8) (s : State) : Out := .next ((s.modR8 r inc8).charge 4 1)

/-- INC r (index prefix has no effect) (R269; 8 ticks). -/
def execIncRX (_x : Idx) (r : Reg8) (s : State) : Out := .next ((s.modR8 r inc8).charge 8 2)

/-- INC XH/XL (R269; 8 ticks). -/
def execIncXH (x : Idx) (h : Half) (s : State) : Out := .next ((s.modHalf x h inc8).charge 8 2)

/-- INC (HL) (R270; 11 ticks). -/
def execIncMHl (s : State) : Out := .next ((s.modMem s.hl inc8).charge 11 1)

/-- INC (X+d) (R270; 23 ticks). -/
def execIncMXd (x : Idx) (d : Byte) (s : State) : Out :=
  .next (((s.setWz (s.ea x d)).modMem (s.ea x d) inc8).charge 23 2)

/-- DEC r (R271; 4 ticks). -/
def execDecR (r : Reg8) (s : State) : Out := .next ((s.modR8 r dec8).charge 4 1)

/-- DEC r (index prefix has no effect) (R271; 8 ticks). -/
def execDecRX (_x : Idx) (r : Reg8) (s : State) : Out := .next ((s.modR8 r dec8).charge 8 2)

/-- DEC XH/XL (R271; 8 ticks). -/
def execDecXH (x : Idx) (h : Half) (s : State) : Out := .next ((s.modHalf x h dec8).charge 8 2)

/-- DEC (HL) (R272; 11 ticks). -/
def execDecMHl (s : State) : Out := .next ((s.modMem s.hl dec8).charge 11 1)

/-- DEC (X+d) (R272; 23 ticks). -/
def execDecMXd (x : Idx) (d : Byte) (s : State) : Out :=
  .next (((s.setWz (s.ea x d)).modMem (s.ea x d) dec8).charge 23 2)

end Sys2Proof.Machine
end

