-- ==== Sys2Proof/Machine/Control.lean ====
section
/-! DEFINITION. 44_general_cpu_control.md: DAA, CPL, NEG, CCF, SCF, NOP, HALT, DI, EI, IM and the extended no-op. -/

namespace Sys2Proof.Machine

/-- DAA (R290; 4 ticks). -/
def execDaa (s : State) : Out := .next ((s.setAF (daa8 s.a s.f)).charge 4 1)

/-- DAA (index prefix has no effect) (R290; 8 ticks). -/
def execDaaX (_x : Idx) (s : State) : Out := .next ((s.setAF (daa8 s.a s.f)).charge 8 2)

/-- CPL (R291; 4 ticks). -/
def execCpl (s : State) : Out := .next ((s.setAF (cpl8 s.a s.f)).charge 4 1)

/-- CPL (index prefix has no effect) (R291; 8 ticks). -/
def execCplX (_x : Idx) (s : State) : Out := .next ((s.setAF (cpl8 s.a s.f)).charge 8 2)

/-- NEG (R292; 8 ticks). -/
def execNeg (_y : BitVec 3) (s : State) : Out := .next ((s.setAF (sub8 0 s.a false)).charge 8 2)

/-- CCF (R293; 4 ticks). -/
def execCcf (s : State) : Out := .next ((s.setF (ccfFlags s.a s.f)).charge 4 1)

/-- CCF (index prefix has no effect) (R293; 8 ticks). -/
def execCcfX (_x : Idx) (s : State) : Out := .next ((s.setF (ccfFlags s.a s.f)).charge 8 2)

/-- SCF (R294; 4 ticks). -/
def execScf (s : State) : Out := .next ((s.setF (scfFlags s.a s.f)).charge 4 1)

/-- SCF (index prefix has no effect) (R294; 8 ticks). -/
def execScfX (_x : Idx) (s : State) : Out := .next ((s.setF (scfFlags s.a s.f)).charge 8 2)

/-- NOP (R295; 4 ticks). -/
def execNop (s : State) : Out := .next (s.charge 4 1)

/-- NOP (index prefix has no effect) (R295; 8 ticks). -/
def execNopX (_x : Idx) (s : State) : Out := .next (s.charge 8 2)

/-- HALT (R296; 4 ticks). -/
def execHalt (s : State) : Out := .next ((s.haltHere).charge 4 1)

/-- HALT after an index prefix (R296; 8 ticks). -/
def execHaltX (_x : Idx) (s : State) : Out := .next ((s.haltHere).charge 8 2)

/-- DI (R297; 4 ticks). -/
def execDi (s : State) : Out := .next ((s.setIffs false).charge 4 1)

/-- DI (index prefix has no effect) (R297; 8 ticks). -/
def execDiX (_x : Idx) (s : State) : Out := .next ((s.setIffs false).charge 8 2)

/-- EI (R298; 4 ticks). -/
def execEi (s : State) : Out := .next ((s.setIffs true).charge 4 1)

/-- EI (index prefix has no effect) (R298; 8 ticks). -/
def execEiX (_x : Idx) (s : State) : Out := .next ((s.setIffs true).charge 8 2)

/-- IM m (R299, R300, R301; 8 ticks). -/
def execIm (y : BitVec 3) (s : State) : Out := .next ((s.setIm (imOfSel y)).charge 8 2)

/-- extended no-op (R302; 8 ticks). -/
def execExtNoop (_op : Byte) (s : State) : Out := .next (s.charge 8 2)

end Sys2Proof.Machine
end

