-- ==== Sys2Proof/Machine/Exchange.lean ====
section
/-! DEFINITION. 42_exchange_block.md: exchanges, block transfer and block search. -/

namespace Sys2Proof.Machine

/-- The pair-swap primitive (R230). -/
def State.exDeHl (s : State) : State := { s with de := s.hl, hl := s.de }

/-- The bank swap of AF (R231). -/
def State.exAf (s : State) : State := { s with af := s.afAlt, afAlt := s.af }

/-- The bank swap of BC, DE and HL (R232). -/
def State.exx (s : State) : State :=
  { s with bc := s.bcAlt, bcAlt := s.bc, de := s.deAlt, deAlt := s.de, hl := s.hlAlt, hlAlt := s.hl }

/-- The accesses of EX (SP),RR: the word at SP is read, low byte first, then `v` is written, high byte first (R233). -/
def State.exSp (s : State) (v : Word) : State :=
  ((s.afterRead16 s.sp).write (s.sp + 1) (hiByte v)).write s.sp (loByte v)

/-- One step of LDI (`step` = 1) or LDD (`step` = -1) (R234, R236). -/
def State.blockLoad (s : State) (step : Word) : State :=
  let v := s.read s.hl
  { (s.afterRead s.hl).write s.de v with hl := s.hl + step, de := s.de + step, bc := s.bc - 1 }.setF
    (blockLoadFlags v s.a s.f (s.bc - 1 != 0))

/-- One step of CPI (`step` = 1) or CPD (`step` = -1) (R238, R240). -/
def State.blockCompare (s : State) (step : Word) : State :=
  { s.afterRead s.hl with hl := s.hl + step, bc := s.bc - 1, wz := s.wz + step }.setF
    (blockCompareFlags (s.read s.hl) s.a s.f (s.bc - 1 != 0))

/-- EX DE,HL (R230; 4 ticks). -/
def execExDeHl (s : State) : Out := .next ((s.exDeHl).charge 4 1)

/-- EX DE,HL (index prefix has no effect) (R230; 8 ticks). -/
def execExDeHlX (_x : Idx) (s : State) : Out := .next ((s.exDeHl).charge 8 2)

/-- EX AF,AF' (R231; 4 ticks). -/
def execExAf (s : State) : Out := .next ((s.exAf).charge 4 1)

/-- EX AF,AF' (index prefix has no effect) (R231; 8 ticks). -/
def execExAfX (_x : Idx) (s : State) : Out := .next ((s.exAf).charge 8 2)

/-- EXX (R232; 4 ticks). -/
def execExx (s : State) : Out := .next ((s.exx).charge 4 1)

/-- EXX (index prefix has no effect) (R232; 8 ticks). -/
def execExxX (_x : Idx) (s : State) : Out := .next ((s.exx).charge 8 2)

/-- EX (SP),HL (R233; 19 ticks). -/
def execExSpHl (s : State) : Out := .next ((((s.exSp s.hl).setHl s.stackTop).setWz s.stackTop).charge 19 1)

/-- EX (SP),X (R233; 23 ticks). -/
def execExSpX (x : Idx) (s : State) : Out :=
  .next ((((s.exSp (s.idx x)).setIdx x s.stackTop).setWz s.stackTop).charge 23 2)

/-- LDI (R234; 16 ticks). -/
def execLdi (s : State) : Out := .next ((s.blockLoad 1).charge 16 2)

/-- LDIR (R235). -/
def execLdir (s : State) : Out := .next ((s.blockLoad 1).repeatWhile (fun t => t.bc != 0))

/-- LDD (R236; 16 ticks). -/
def execLdd (s : State) : Out := .next ((s.blockLoad (-1)).charge 16 2)

/-- LDDR (R237). -/
def execLddr (s : State) : Out := .next ((s.blockLoad (-1)).repeatWhile (fun t => t.bc != 0))

/-- CPI (R238; 16 ticks). -/
def execCpi (s : State) : Out := .next ((s.blockCompare 1).charge 16 2)

/-- CPIR (R239). -/
def execCpir (s : State) : Out := .next ((s.blockCompare 1).repeatWhile (fun t => t.bc != 0 && !fZ t.f))

/-- CPD (R240; 16 ticks). -/
def execCpd (s : State) : Out := .next ((s.blockCompare (-1)).charge 16 2)

/-- CPDR (R241). -/
def execCpdr (s : State) : Out := .next ((s.blockCompare (-1)).repeatWhile (fun t => t.bc != 0 && !fZ t.f))

end Sys2Proof.Machine
end

