-- ==== Sys2Proof/Machine/Io.lean ====
section
/-! DEFINITION. 48_io.md: port input and output. -/

namespace Sys2Proof.Machine

/-- IN A,(n) (R411). -/
def State.inAccumulator (s : State) (n : Byte) : State :=
  let port := joinBytes s.a n
  ((s.portRead port).setA (s.portIn port)).setWz (port + 1)

/-- The flags of IN r,(C) for a value `v` (R412). -/
def inFlagsOf (v f : Byte) : Byte := szxypWith v false false (fC f)

/-- IN F,(C): the port is read and no register but F is written (R413; D28). -/
def State.inFlags (s : State) : State :=
  ((s.portRead s.bc).setF (inFlagsOf (s.portIn s.bc) s.f)).setWz (s.bc + 1)

/-- IN r,(C) (R412). DEDUCED (log entry 7): WZ is made from the BC that addressed the port. -/
def State.inRegister (s : State) (r : Reg8) : State := s.inFlags.setR8 r (s.portIn s.bc)

/-- One step of INI (`step` = 1) or IND (`step` = -1): the port is addressed by BC before the decrement (R414, R416). -/
def State.blockIn (s : State) (step : Word) : State :=
  let v := s.portIn s.bc
  let b := s.b - 1
  let k := v.toNat + (s.c + loByte step).toNat
  { (s.portRead s.bc).write s.hl v with wz := s.bc + step, bc := joinBytes b s.c, hl := s.hl + step }.setF (bioFlags v b k)

/-- One step of OUTI (`step` = 1) or OUTD (`step` = -1): the port is addressed by BC after the decrement
(R421, R423). -/
def State.blockOut (s : State) (step : Word) : State :=
  let v := s.read s.hl
  let b := s.b - 1
  let bc := joinBytes b s.c
  let hl := s.hl + step
  { (s.afterRead s.hl).portWrite bc v with bc := bc, hl := hl, wz := bc + step }.setF (bioFlags v b (v.toNat + (loByte hl).toNat))

/-- IN A,(n) (R411; 11 ticks). -/
def execInAN (n : Byte) (s : State) : Out := .next ((s.inAccumulator n).charge 11 1)

/-- IN A,(n) (index prefix has no effect) (R411; 15 ticks). -/
def execInANX (_x : Idx) (n : Byte) (s : State) : Out := .next ((s.inAccumulator n).charge 15 2)

/-- IN r,(C) (R412; 12 ticks). -/
def execInRC (r : Reg8) (s : State) : Out := .next ((s.inRegister r).charge 12 2)

/-- IN F,(C) (R413; 12 ticks). -/
def execInFC (s : State) : Out := .next ((s.inFlags).charge 12 2)

/-- INI (R414; 16 ticks). -/
def execIni (s : State) : Out := .next ((s.blockIn 1).charge 16 2)

/-- INIR (R415). -/
def execInir (s : State) : Out := .next ((s.blockIn 1).repeatWhile (fun t => t.b != 0))

/-- IND (R416; 16 ticks). -/
def execInd (s : State) : Out := .next ((s.blockIn (-1)).charge 16 2)

/-- INDR (R417). -/
def execIndr (s : State) : Out := .next ((s.blockIn (-1)).repeatWhile (fun t => t.b != 0))

/-- OUT (n),A (R418; 11 ticks). -/
def execOutNA (n : Byte) (s : State) : Out :=
  .next (((s.portWrite (joinBytes s.a n) s.a).setWz (joinBytes s.a (n + 1))).charge 11 1)

/-- OUT (n),A (index prefix has no effect) (R418; 15 ticks). -/
def execOutNAX (_x : Idx) (n : Byte) (s : State) : Out :=
  .next (((s.portWrite (joinBytes s.a n) s.a).setWz (joinBytes s.a (n + 1))).charge 15 2)

/-- OUT (C),r (R419; 12 ticks). -/
def execOutCR (r : Reg8) (s : State) : Out := .next (((s.portWrite s.bc (s.r8 r)).setWz (s.bc + 1)).charge 12 2)

/-- OUT (C),0 (R420; 12 ticks). -/
def execOutC0 (s : State) : Out := .next (((s.portWrite s.bc 0x00).setWz (s.bc + 1)).charge 12 2)

/-- OUTI (R421; 16 ticks). -/
def execOuti (s : State) : Out := .next ((s.blockOut 1).charge 16 2)

/-- OTIR (R422). -/
def execOtir (s : State) : Out := .next ((s.blockOut 1).repeatWhile (fun t => t.b != 0))

/-- OUTD (R423; 16 ticks). -/
def execOutd (s : State) : Out := .next ((s.blockOut (-1)).charge 16 2)

/-- OTDR (R424). -/
def execOtdr (s : State) : Out := .next ((s.blockOut (-1)).repeatWhile (fun t => t.b != 0))

end Sys2Proof.Machine
end

