-- ==== Sys2Proof/Machine/Jump.lean ====
section
/-! DEFINITION. 47_jump_call_return.md: jumps, calls, returns and RST. -/

namespace Sys2Proof.Machine

/-- JP cc,nn: WZ is written whether the jump is taken or not (R381). -/
def State.jumpIf (s : State) (taken : Bool) (nn : Word) : State :=
  if taken then s.jump nn else s.setWz nn

/-- JR cc,e and DJNZ e: the totals `yes` (taken) and `no` (not taken) of the rule, and the opcode fetches already
charged (R383, R385). -/
def State.relIf (s : State) (taken : Bool) (e : Byte) (yes no fetches : Nat) : State :=
  if taken then (s.jump (s.pc + sext8 e)).charge yes fetches else s.charge no fetches

/-- CALL cc,nn: WZ is written either way (R387). -/
def State.callIf (s : State) (taken : Bool) (nn : Word) (yes no fetches : Nat) : State :=
  if taken then ((s.push16 s.pc).jump nn).charge yes fetches else (s.setWz nn).charge no fetches

/-- `PC <- Pop16(); WZ <- PC` (R388). -/
def State.returnPc (s : State) : State := s.popped.jump s.stackTop

/-- RET cc (R389): nothing is read and WZ is kept when the condition is false (log entry 8). -/
def State.returnIf (s : State) (taken : Bool) (yes no fetches : Nat) : State :=
  if taken then s.returnPc.charge yes fetches else s.charge no fetches

/-- JP nn (R380; 10 ticks). -/
def execJp (nn : Word) (s : State) : Out := .next ((s.jump nn).charge 10 1)

/-- JP nn (index prefix has no effect) (R380; 14 ticks). -/
def execJpX (_x : Idx) (nn : Word) (s : State) : Out := .next ((s.jump nn).charge 14 2)

/-- JP cc,nn (R381; 10 ticks). -/
def execJpCc (cc : Cond) (nn : Word) (s : State) : Out := .next ((s.jumpIf (s.cond cc) nn).charge 10 1)

/-- JP cc,nn (index prefix has no effect) (R381; 14 ticks). -/
def execJpCcX (_x : Idx) (cc : Cond) (nn : Word) (s : State) : Out := .next ((s.jumpIf (s.cond cc) nn).charge 14 2)

/-- JR e (R382; 12 ticks). -/
def execJr (e : Byte) (s : State) : Out := .next ((s.jump (s.pc + sext8 e)).charge 12 1)

/-- JR e (index prefix has no effect) (R382; 16 ticks). -/
def execJrX (_x : Idx) (e : Byte) (s : State) : Out := .next ((s.jump (s.pc + sext8 e)).charge 16 2)

/-- JR cc,e (R383). -/
def execJrCc (cc : Cond) (e : Byte) (s : State) : Out := .next (s.relIf (s.cond cc) e 12 7 1)

/-- JR cc,e (index prefix has no effect) (R383). -/
def execJrCcX (_x : Idx) (cc : Cond) (e : Byte) (s : State) : Out := .next (s.relIf (s.cond cc) e 16 11 2)

/-- JP (HL) (R384; 4 ticks). -/
def execJpHl (s : State) : Out := .next ((s.setPc s.hl).charge 4 1)

/-- JP (X) (R384; 8 ticks). -/
def execJpIdx (x : Idx) (s : State) : Out := .next ((s.setPc (s.idx x)).charge 8 2)

/-- DJNZ e (R385). -/
def execDjnz (e : Byte) (s : State) : Out := .next ((s.setR8 .b (s.b - 1)).relIf (s.b - 1 != 0) e 13 8 1)

/-- DJNZ e (index prefix has no effect) (R385). -/
def execDjnzX (_x : Idx) (e : Byte) (s : State) : Out := .next ((s.setR8 .b (s.b - 1)).relIf (s.b - 1 != 0) e 17 12 2)

/-- CALL nn (R386; 17 ticks). -/
def execCall (nn : Word) (s : State) : Out := .next (((s.push16 s.pc).jump nn).charge 17 1)

/-- CALL nn (index prefix has no effect) (R386; 21 ticks). -/
def execCallX (_x : Idx) (nn : Word) (s : State) : Out := .next (((s.push16 s.pc).jump nn).charge 21 2)

/-- CALL cc,nn (R387). -/
def execCallCc (cc : Cond) (nn : Word) (s : State) : Out := .next (s.callIf (s.cond cc) nn 17 10 1)

/-- CALL cc,nn (index prefix has no effect) (R387). -/
def execCallCcX (_x : Idx) (cc : Cond) (nn : Word) (s : State) : Out := .next (s.callIf (s.cond cc) nn 21 14 2)

/-- RET (R388; 10 ticks). -/
def execRet (s : State) : Out := .next ((s.returnPc).charge 10 1)

/-- RET (index prefix has no effect) (R388; 14 ticks). -/
def execRetX (_x : Idx) (s : State) : Out := .next ((s.returnPc).charge 14 2)

/-- RET cc (R389). -/
def execRetCc (cc : Cond) (s : State) : Out := .next (s.returnIf (s.cond cc) 11 5 1)

/-- RET cc (index prefix has no effect) (R389). -/
def execRetCcX (_x : Idx) (cc : Cond) (s : State) : Out := .next (s.returnIf (s.cond cc) 15 9 2)

/-- RETI (R390; 14 ticks). -/
def execReti (s : State) : Out := .next ((s.returnFromInterrupt).charge 14 2)

/-- RETN (R391; 14 ticks). -/
def execRetn (_y : BitVec 3) (s : State) : Out := .next ((s.returnFromInterrupt).charge 14 2)

/-- RST p (R392; 11 ticks). -/
def execRst (t : BitVec 3) (s : State) : Out := .next (((s.push16 s.pc).jump (rstTarget t)).charge 11 1)

/-- RST p (index prefix has no effect) (R392; 15 ticks). -/
def execRstX (_x : Idx) (t : BitVec 3) (s : State) : Out := .next (((s.push16 s.pc).jump (rstTarget t)).charge 15 2)

end Sys2Proof.Machine
end

