-- ==== Sys2Proof/Machine/Load.lean ====
section
/-! DEFINITION. 41_load.md: loads, PUSH and POP. -/

namespace Sys2Proof.Machine

/-- The body of LD A,I and LD A,R (R194, R195; D27): A and S, Z, Y, X from the special register, PV = IFF2, C kept. -/
def State.ldASpecial (s : State) (v : Byte) : State :=
  s.setAF (v, szxyWith v false s.iff2 false (fC s.f))

/-- `A <- MemRead(a); WZ <- a + 1` (R188 to R190). -/
def State.loadA (s : State) (a : Word) : State := ((s.afterRead a).setA (s.read a)).setWz (a + 1)

/-- `MemWrite(a, A); WZ <- {A, a[7:0] + 1}` (R191 to R193). -/
def State.storeA (s : State) (a : Word) : State := (s.write a s.a).setWz (joinBytes s.a (loByte a + 1))

/-- LD r,r' (R180; 4 ticks). -/
def execLdRR (r : Reg8) (r2 : Reg8) (s : State) : Out := .next ((s.setR8 r (s.r8 r2)).charge 4 1)

/-- LD r,r' (index prefix has no effect) (R180; 8 ticks). -/
def execLdRRX (_x : Idx) (r : Reg8) (r2 : Reg8) (s : State) : Out := .next ((s.setR8 r (s.r8 r2)).charge 8 2)

/-- LD r,r' (H, L -> XH, XL) (R180; 8 ticks). -/
def execLdRRXH (x : Idx) (r : Reg8) (r2 : Reg8) (s : State) : Out := .next ((s.setR8X x r (s.r8X x r2)).charge 8 2)

/-- LD r,n (R181; 7 ticks). -/
def execLdRN (r : Reg8) (n : Byte) (s : State) : Out := .next ((s.setR8 r n).charge 7 1)

/-- LD r,n (index prefix has no effect) (R181; 11 ticks). -/
def execLdRNX (_x : Idx) (r : Reg8) (n : Byte) (s : State) : Out := .next ((s.setR8 r n).charge 11 2)

/-- LD XH/XL,n (R181; 11 ticks). -/
def execLdXHN (x : Idx) (h : Half) (n : Byte) (s : State) : Out := .next ((s.setHalf x h n).charge 11 2)

/-- LD r,(HL) (R182; 7 ticks). -/
def execLdRMHl (r : Reg8) (s : State) : Out := .next (((s.afterRead s.hl).setR8 r (s.read s.hl)).charge 7 1)

/-- LD r,(X+d) (R183; 19 ticks). -/
def execLdRMXd (x : Idx) (r : Reg8) (d : Byte) (s : State) : Out :=
  .next ((((s.setWz (s.ea x d)).afterRead (s.ea x d)).setR8 r (s.read (s.ea x d))).charge 19 2)

/-- LD (HL),r (R184; 7 ticks). -/
def execLdMHlR (r : Reg8) (s : State) : Out := .next ((s.write s.hl (s.r8 r)).charge 7 1)

/-- LD (X+d),r (R185; 19 ticks). -/
def execLdMXdR (x : Idx) (r : Reg8) (d : Byte) (s : State) : Out :=
  .next (((s.setWz (s.ea x d)).write (s.ea x d) (s.r8 r)).charge 19 2)

/-- LD (HL),n (R186; 10 ticks). -/
def execLdMHlN (n : Byte) (s : State) : Out := .next ((s.write s.hl n).charge 10 1)

/-- LD (X+d),n (R187; 19 ticks). -/
def execLdMXdN (x : Idx) (d : Byte) (n : Byte) (s : State) : Out :=
  .next (((s.setWz (s.ea x d)).write (s.ea x d) n).charge 19 2)

/-- LD A,(BC) (R188; 7 ticks). -/
def execLdABc (s : State) : Out := .next ((s.loadA s.bc).charge 7 1)

/-- LD A,(BC) (index prefix has no effect) (R188; 11 ticks). -/
def execLdABcX (_x : Idx) (s : State) : Out := .next ((s.loadA s.bc).charge 11 2)

/-- LD A,(DE) (R189; 7 ticks). -/
def execLdADe (s : State) : Out := .next ((s.loadA s.de).charge 7 1)

/-- LD A,(DE) (index prefix has no effect) (R189; 11 ticks). -/
def execLdADeX (_x : Idx) (s : State) : Out := .next ((s.loadA s.de).charge 11 2)

/-- LD A,(nn) (R190; 13 ticks). -/
def execLdAMem (nn : Word) (s : State) : Out := .next ((s.loadA nn).charge 13 1)

/-- LD A,(nn) (index prefix has no effect) (R190; 17 ticks). -/
def execLdAMemX (_x : Idx) (nn : Word) (s : State) : Out := .next ((s.loadA nn).charge 17 2)

/-- LD (BC),A (R191; 7 ticks). -/
def execLdBcA (s : State) : Out := .next ((s.storeA s.bc).charge 7 1)

/-- LD (BC),A (index prefix has no effect) (R191; 11 ticks). -/
def execLdBcAX (_x : Idx) (s : State) : Out :=
  .next ((s.storeA s.bc).charge 11 2)

/-- LD (DE),A (R192; 7 ticks). -/
def execLdDeA (s : State) : Out := .next ((s.storeA s.de).charge 7 1)

/-- LD (DE),A (index prefix has no effect) (R192; 11 ticks). -/
def execLdDeAX (_x : Idx) (s : State) : Out :=
  .next ((s.storeA s.de).charge 11 2)

/-- LD (nn),A (R193; 13 ticks). -/
def execLdMemA (nn : Word) (s : State) : Out :=
  .next ((s.storeA nn).charge 13 1)

/-- LD (nn),A (index prefix has no effect) (R193; 17 ticks). -/
def execLdMemAX (_x : Idx) (nn : Word) (s : State) : Out :=
  .next ((s.storeA nn).charge 17 2)

/-- LD A,I (R194; 9 ticks). -/
def execLdAI (s : State) : Out := .next ((s.ldASpecial s.i).charge 9 2)

/-- LD A,R (R195; 9 ticks). -/
def execLdAR (s : State) : Out := .next ((s.ldASpecial s.r).charge 9 2)

/-- LD I,A (R196; 9 ticks). -/
def execLdIA (s : State) : Out := .next ((s.setI s.a).charge 9 2)

/-- LD R,A (R197; 9 ticks). -/
def execLdRA (s : State) : Out := .next ((s.setR s.a).charge 9 2)

/-- LD dd,nn (R198; 10 ticks). -/
def execLdRpNn (p : Rp) (nn : Word) (s : State) : Out := .next ((s.setRp p nn).charge 10 1)

/-- LD dd,nn (index prefix has no effect) (R198; 14 ticks). -/
def execLdRpNnX (_x : Idx) (p : Rp) (nn : Word) (s : State) : Out := .next ((s.setRp p nn).charge 14 2)

/-- LD X,nn (R198; 14 ticks). -/
def execLdXNn (x : Idx) (nn : Word) (s : State) : Out := .next ((s.setIdx x nn).charge 14 2)

/-- LD HL,(nn) (R199; 16 ticks). -/
def execLdHlMem (nn : Word) (s : State) : Out := .next ((((s.afterRead16 nn).setHl (s.read16 nn)).setWz (nn + 1)).charge 16 1)

/-- LD X,(nn) (R199; 20 ticks). -/
def execLdXMem (x : Idx) (nn : Word) (s : State) : Out :=
  .next ((((s.afterRead16 nn).setIdx x (s.read16 nn)).setWz (nn + 1)).charge 20 2)

/-- LD dd,(nn) (R200; 20 ticks). -/
def execLdRpMem (p : Rp) (nn : Word) (s : State) : Out :=
  .next ((((s.afterRead16 nn).setRp p (s.read16 nn)).setWz (nn + 1)).charge 20 2)

/-- LD (nn),HL (R201; 16 ticks). -/
def execLdMemHl (nn : Word) (s : State) : Out := .next (((s.write16 nn s.hl).setWz (nn + 1)).charge 16 1)

/-- LD (nn),X (R201; 20 ticks). -/
def execLdMemX (x : Idx) (nn : Word) (s : State) : Out := .next (((s.write16 nn (s.idx x)).setWz (nn + 1)).charge 20 2)

/-- LD (nn),dd (R202; 20 ticks). -/
def execLdMemRp (p : Rp) (nn : Word) (s : State) : Out := .next (((s.write16 nn (s.rp p)).setWz (nn + 1)).charge 20 2)

/-- LD SP,HL (R203; 6 ticks). -/
def execLdSpHl (s : State) : Out := .next ((s.setSp s.hl).charge 6 1)

/-- LD SP,X (R203; 10 ticks). -/
def execLdSpX (x : Idx) (s : State) : Out := .next ((s.setSp (s.idx x)).charge 10 2)

/-- PUSH qq (R204; 11 ticks). -/
def execPushQ (q : Rp2) (s : State) : Out := .next ((s.push16 (s.rp2 q)).charge 11 1)

/-- PUSH qq (index prefix has no effect) (R204; 15 ticks). -/
def execPushQX (_x : Idx) (q : Rp2) (s : State) : Out := .next ((s.push16 (s.rp2 q)).charge 15 2)

/-- PUSH X (R204; 15 ticks). -/
def execPushX (x : Idx) (s : State) : Out := .next ((s.push16 (s.idx x)).charge 15 2)

/-- POP qq (R205; 10 ticks). -/
def execPopQ (q : Rp2) (s : State) : Out := .next ((s.popped.setRp2 q s.stackTop).charge 10 1)

/-- POP qq (index prefix has no effect) (R205; 14 ticks). -/
def execPopQX (_x : Idx) (q : Rp2) (s : State) : Out := .next ((s.popped.setRp2 q s.stackTop).charge 14 2)

/-- POP X (R205; 14 ticks). -/
def execPopX (x : Idx) (s : State) : Out := .next ((s.popped.setIdx x s.stackTop).charge 14 2)

end Sys2Proof.Machine
end

