-- ==== Sys2Proof/Machine/Prefix.lean ====
section
/-! DEFINITION. 30_encoding.md R102 and R103: the calls that consume a prefix byte. Their ticks are those of the opcode fetch. -/

namespace Sys2Proof.Machine

/-- prefix CB (R102; 4 ticks, the fetch). -/
def execPrefixCB (s : State) : Out := .next (s.enterPrefix .bitPending)

/-- prefix DD (R102; 4 ticks, the fetch). -/
def execPrefixDD (s : State) : Out := .next (s.enterPrefix (.indexPending .ix))

/-- prefix ED (R102; 4 ticks, the fetch). -/
def execPrefixED (s : State) : Out := .next (s.enterPrefix .extendedPending)

/-- prefix FD (R102; 4 ticks, the fetch). -/
def execPrefixFD (s : State) : Out := .next (s.enterPrefix (.indexPending .iy))

/-- prefix CB (index+bit) (R102, R103; 4 ticks, the fetch). -/
def execPrefixCBX (x : Idx) (s : State) : Out := .next (s.enterPrefix (.indexBitPending x))

/-- prefix after index prefix (R102; 4 ticks, the fetch). -/
def execPrefixAfterX (_x : Idx) (px : IdxPrefix) (s : State) : Out := .next (s.enterPrefix px.nextState)

end Sys2Proof.Machine
end

