-- ==== Sys2Proof/Machine/Rotate.lean ====
section
/-! DEFINITION. 46_rotate_shift_bit.md: rotates, shifts, BIT, SET and RES. -/

namespace Sys2Proof.Machine

/-- The accumulator rotates (R340 to R343). -/
def State.accRot (s : State) (k : RotKind) : State := s.setAF (accRotOp k s.a s.f)

/-- The digit rotate left (R353). -/
def State.rld (s : State) : State :=
  let v := s.read s.hl
  let a := hiNibble s.a ++ hiNibble v
  (((s.afterRead s.hl).write s.hl (loNibble v ++ loNibble s.a)).setWz (s.hl + 1)).setAF (a, szxypWith a false false (fC s.f))

/-- The digit rotate right (R354). -/
def State.rrd (s : State) : State :=
  let v := s.read s.hl
  let a := hiNibble s.a ++ loNibble v
  (((s.afterRead s.hl).write s.hl (loNibble s.a ++ hiNibble v)).setWz (s.hl + 1)).setAF (a, szxypWith a false false (fC s.f))

/-- RLCA (R340; 4 ticks). -/
def execRlca (s : State) : Out := .next ((s.accRot .rlc).charge 4 1)

/-- RLCA (index prefix has no effect) (R340; 8 ticks). -/
def execRlcaX (_x : Idx) (s : State) : Out := .next ((s.accRot .rlc).charge 8 2)

/-- RLA (R341; 4 ticks). -/
def execRla (s : State) : Out := .next ((s.accRot .rl).charge 4 1)

/-- RLA (index prefix has no effect) (R341; 8 ticks). -/
def execRlaX (_x : Idx) (s : State) : Out := .next ((s.accRot .rl).charge 8 2)

/-- RRCA (R342; 4 ticks). -/
def execRrca (s : State) : Out := .next ((s.accRot .rrc).charge 4 1)

/-- RRCA (index prefix has no effect) (R342; 8 ticks). -/
def execRrcaX (_x : Idx) (s : State) : Out := .next ((s.accRot .rrc).charge 8 2)

/-- RRA (R343; 4 ticks). -/
def execRra (s : State) : Out := .next ((s.accRot .rr).charge 4 1)

/-- RRA (index prefix has no effect) (R343; 8 ticks). -/
def execRraX (_x : Idx) (s : State) : Out := .next ((s.accRot .rr).charge 8 2)

/-- RLC r (R345; 8 ticks). -/
def execRlcR (r : Reg8) (s : State) : Out := .next ((s.modR8 r (rotOp .rlc)).charge 8 2)

/-- RLC (HL) (R345; 15 ticks). -/
def execRlcMHl (s : State) : Out := .next ((s.modMem s.hl (rotOp .rlc)).charge 15 2)

/-- RLC (X+d),r (R345; 23 ticks). -/
def execRlcMXdR (x : Idx) (d : Byte) (r : Reg8) (s : State) : Out :=
  .next ((s.modXdCopy x d r (rotOp .rlc)).charge 23 2)

/-- RLC (X+d) (R345; 23 ticks). -/
def execRlcMXd (x : Idx) (d : Byte) (s : State) : Out := .next ((s.modXd x d (rotOp .rlc)).charge 23 2)

/-- RRC r (R347; 8 ticks). -/
def execRrcR (r : Reg8) (s : State) : Out := .next ((s.modR8 r (rotOp .rrc)).charge 8 2)

/-- RRC (HL) (R347; 15 ticks). -/
def execRrcMHl (s : State) : Out := .next ((s.modMem s.hl (rotOp .rrc)).charge 15 2)

/-- RRC (X+d),r (R347; 23 ticks). -/
def execRrcMXdR (x : Idx) (d : Byte) (r : Reg8) (s : State) : Out :=
  .next ((s.modXdCopy x d r (rotOp .rrc)).charge 23 2)

/-- RRC (X+d) (R347; 23 ticks). -/
def execRrcMXd (x : Idx) (d : Byte) (s : State) : Out := .next ((s.modXd x d (rotOp .rrc)).charge 23 2)

/-- RL r (R346; 8 ticks). -/
def execRlR (r : Reg8) (s : State) : Out := .next ((s.modR8 r (rotOp .rl)).charge 8 2)

/-- RL (HL) (R346; 15 ticks). -/
def execRlMHl (s : State) : Out := .next ((s.modMem s.hl (rotOp .rl)).charge 15 2)

/-- RL (X+d),r (R346; 23 ticks). -/
def execRlMXdR (x : Idx) (d : Byte) (r : Reg8) (s : State) : Out := .next ((s.modXdCopy x d r (rotOp .rl)).charge 23 2)

/-- RL (X+d) (R346; 23 ticks). -/
def execRlMXd (x : Idx) (d : Byte) (s : State) : Out := .next ((s.modXd x d (rotOp .rl)).charge 23 2)

/-- RR r (R348; 8 ticks). -/
def execRrR (r : Reg8) (s : State) : Out := .next ((s.modR8 r (rotOp .rr)).charge 8 2)

/-- RR (HL) (R348; 15 ticks). -/
def execRrMHl (s : State) : Out := .next ((s.modMem s.hl (rotOp .rr)).charge 15 2)

/-- RR (X+d),r (R348; 23 ticks). -/
def execRrMXdR (x : Idx) (d : Byte) (r : Reg8) (s : State) : Out := .next ((s.modXdCopy x d r (rotOp .rr)).charge 23 2)

/-- RR (X+d) (R348; 23 ticks). -/
def execRrMXd (x : Idx) (d : Byte) (s : State) : Out := .next ((s.modXd x d (rotOp .rr)).charge 23 2)

/-- SLA r (R349; 8 ticks). -/
def execSlaR (r : Reg8) (s : State) : Out := .next ((s.modR8 r (rotOp .sla)).charge 8 2)

/-- SLA (HL) (R349; 15 ticks). -/
def execSlaMHl (s : State) : Out := .next ((s.modMem s.hl (rotOp .sla)).charge 15 2)

/-- SLA (X+d),r (R349; 23 ticks). -/
def execSlaMXdR (x : Idx) (d : Byte) (r : Reg8) (s : State) : Out :=
  .next ((s.modXdCopy x d r (rotOp .sla)).charge 23 2)

/-- SLA (X+d) (R349; 23 ticks). -/
def execSlaMXd (x : Idx) (d : Byte) (s : State) : Out := .next ((s.modXd x d (rotOp .sla)).charge 23 2)

/-- SRA r (R350; 8 ticks). -/
def execSraR (r : Reg8) (s : State) : Out := .next ((s.modR8 r (rotOp .sra)).charge 8 2)

/-- SRA (HL) (R350; 15 ticks). -/
def execSraMHl (s : State) : Out := .next ((s.modMem s.hl (rotOp .sra)).charge 15 2)

/-- SRA (X+d),r (R350; 23 ticks). -/
def execSraMXdR (x : Idx) (d : Byte) (r : Reg8) (s : State) : Out :=
  .next ((s.modXdCopy x d r (rotOp .sra)).charge 23 2)

/-- SRA (X+d) (R350; 23 ticks). -/
def execSraMXd (x : Idx) (d : Byte) (s : State) : Out := .next ((s.modXd x d (rotOp .sra)).charge 23 2)

/-- SLL r (R351; 8 ticks). -/
def execSllR (r : Reg8) (s : State) : Out := .next ((s.modR8 r (rotOp .sll)).charge 8 2)

/-- SLL (HL) (R351; 15 ticks). -/
def execSllMHl (s : State) : Out := .next ((s.modMem s.hl (rotOp .sll)).charge 15 2)

/-- SLL (X+d),r (R351; 23 ticks). -/
def execSllMXdR (x : Idx) (d : Byte) (r : Reg8) (s : State) : Out :=
  .next ((s.modXdCopy x d r (rotOp .sll)).charge 23 2)

/-- SLL (X+d) (R351; 23 ticks). -/
def execSllMXd (x : Idx) (d : Byte) (s : State) : Out := .next ((s.modXd x d (rotOp .sll)).charge 23 2)

/-- SRL r (R352; 8 ticks). -/
def execSrlR (r : Reg8) (s : State) : Out := .next ((s.modR8 r (rotOp .srl)).charge 8 2)

/-- SRL (HL) (R352; 15 ticks). -/
def execSrlMHl (s : State) : Out := .next ((s.modMem s.hl (rotOp .srl)).charge 15 2)

/-- SRL (X+d),r (R352; 23 ticks). -/
def execSrlMXdR (x : Idx) (d : Byte) (r : Reg8) (s : State) : Out :=
  .next ((s.modXdCopy x d r (rotOp .srl)).charge 23 2)

/-- SRL (X+d) (R352; 23 ticks). -/
def execSrlMXd (x : Idx) (d : Byte) (s : State) : Out := .next ((s.modXd x d (rotOp .srl)).charge 23 2)

/-- RLD (R353; 18 ticks). -/
def execRld (s : State) : Out := .next ((s.rld).charge 18 2)

/-- RRD (R354; 18 ticks). -/
def execRrd (s : State) : Out := .next ((s.rrd).charge 18 2)

/-- BIT b,r (R355; 8 ticks). -/
def execBitR (b : BitVec 3) (r : Reg8) (s : State) : Out :=
  .next ((s.setF (bitFlags b (s.r8 r) (s.r8 r) s.f)).charge 8 2)

/-- BIT b,(HL) (R356; 12 ticks). -/
def execBitMHl (b : BitVec 3) (s : State) : Out :=
  .next (((s.afterRead s.hl).setF (bitFlags b (s.read s.hl) (hiByte s.wz) s.f)).charge 12 2)

/-- BIT b,(X+d) (R357; 20 ticks). -/
def execBitMXd (x : Idx) (d : Byte) (b : BitVec 3) (_z : BitVec 3) (s : State) : Out :=
  .next ((((s.setWz (s.ea x d)).afterRead (s.ea x d)).setF
    (bitFlags b (s.read (s.ea x d)) (hiByte (s.ea x d)) s.f)).charge 20 2)

/-- SET b,r (R358; 8 ticks). -/
def execSetR (b : BitVec 3) (r : Reg8) (s : State) : Out := .next ((s.modR8 r (setOp b)).charge 8 2)

/-- SET b,(HL) (R358; 15 ticks). -/
def execSetMHl (b : BitVec 3) (s : State) : Out := .next ((s.modMem s.hl (setOp b)).charge 15 2)

/-- SET b,(X+d),r (R358; 23 ticks). -/
def execSetMXdR (x : Idx) (d : Byte) (b : BitVec 3) (r : Reg8) (s : State) : Out :=
  .next ((s.modXdCopy x d r (setOp b)).charge 23 2)

/-- SET b,(X+d) (R358; 23 ticks). -/
def execSetMXd (x : Idx) (d : Byte) (b : BitVec 3) (s : State) : Out := .next ((s.modXd x d (setOp b)).charge 23 2)

/-- RES b,r (R359; 8 ticks). -/
def execResR (b : BitVec 3) (r : Reg8) (s : State) : Out := .next ((s.modR8 r (resOp b)).charge 8 2)

/-- RES b,(HL) (R359; 15 ticks). -/
def execResMHl (b : BitVec 3) (s : State) : Out := .next ((s.modMem s.hl (resOp b)).charge 15 2)

/-- RES b,(X+d),r (R359; 23 ticks). -/
def execResMXdR (x : Idx) (d : Byte) (b : BitVec 3) (r : Reg8) (s : State) : Out :=
  .next ((s.modXdCopy x d r (resOp b)).charge 23 2)

/-- RES b,(X+d) (R359; 23 ticks). -/
def execResMXd (x : Idx) (d : Byte) (b : BitVec 3) (s : State) : Out := .next ((s.modXd x d (resOp b)).charge 23 2)

end Sys2Proof.Machine
end

