-- ==== Sys2Proof/Machine/Z80n.lean ====
section
/-! DEFINITION. 49_z80n_extended.md: the feature-gated extended subset. The gate of R440 is the decoder's. -/

namespace Sys2Proof.Machine

/-- The barrel shift count `B & 31` (R444). -/
def State.shiftCount (s : State) : Nat := (s.b &&& 31).toNat

/-- The barrel rotate count `B & 15` (R448). -/
def State.rotateCount (s : State) : Nat := (s.b &&& 15).toNat

/-- PIXELDN's new HL (R460). -/
def pixelDown (hl : Word) : Word :=
  if hiByte hl &&& 0x07 != 0x07 then hl + 0x0100
  else if loByte hl &&& 0xE0 != 0xE0 then (hl &&& 0xF8FF) + 0x0020
  else (hl &&& 0xF81F) + 0x0800

/-- PIXELAD's new HL for row `d` and column `e` (R461). -/
def pixelAddress (d e : Byte) : Word :=
  0x4000 ||| (zext16 (d &&& 0xC0) <<< 5) ||| (zext16 (d &&& 0x07) <<< 8) ||| (zext16 (d &&& 0x38) <<< 2) |||
    zext16 (e >>> 3)

/-- JP (C): the 16 KiB block is that of PC after the instruction (R463). -/
def State.jumpPort (s : State) : State :=
  (s.portRead s.bc).setPc ((s.pc &&& 0xC000) ||| (zext16 (s.portIn s.bc) <<< 6))

/-- Writing `v` at DE unless it is the transparent value A (R464, R468). -/
def State.writeUnlessA (s : State) (v : Byte) : State := if v != s.a then s.write s.de v else s

/-- One step of LDIX (`step` = 1) or LDDX (`step` = -1); DE always increments (R464, R466). -/
def State.blockLoadX (s : State) (step : Word) : State :=
  { (s.afterRead s.hl).writeUnlessA (s.read s.hl) with hl := s.hl + step, de := s.de + 1, bc := s.bc - 1 }

/-- LDWS: L and D step, with the flags of INC D (R465). -/
def State.ldws (s : State) : State :=
  let d := inc8 (hiByte s.de) s.f
  { (s.afterRead s.hl).write s.de (s.read s.hl) with hl := setLoByte s.hl (loByte s.hl + 1), de := setHiByte s.de d.1 }.setF d.2

/-- One step of LDPIRX: the source is byte `E & 7` of the 8-byte pattern at HL (R468). -/
def State.patternLoad (s : State) : State :=
  let source := (s.hl &&& 0xFFF8) ||| zext16 (loByte s.de &&& 7)
  { (s.afterRead source).writeUnlessA (s.read source) with de := s.de + 1, bc := s.bc - 1 }

/-- SWAPNIB (R441; 8 ticks). -/
def execSwapnib (s : State) : Out := .next ((s.setA (loNibble s.a ++ hiNibble s.a)).charge 8 2)

/-- MIRROR A (R442; 8 ticks). -/
def execMirrorA (s : State) : Out := .next ((s.setA (bitReverse s.a)).charge 8 2)

/-- TEST n (R443; 11 ticks). -/
def execTestN (n : Byte) (s : State) : Out := .next ((s.setF (logicFlags (s.a &&& n) true)).charge 11 2)

/-- BSLA DE,B (R444; 8 ticks). -/
def execBsla (s : State) : Out := .next ((s.setDe (s.de <<< s.shiftCount)).charge 8 2)

/-- BSRA DE,B (R445; 8 ticks). -/
def execBsra (s : State) : Out := .next ((s.setDe (s.de.sshiftRight s.shiftCount)).charge 8 2)

/-- BSRL DE,B (R446; 8 ticks). -/
def execBsrl (s : State) : Out := .next ((s.setDe (s.de >>> s.shiftCount)).charge 8 2)

/-- BSRF DE,B (R447; 8 ticks). -/
def execBsrf (s : State) : Out := .next ((s.setDe (~~~((~~~s.de) >>> s.shiftCount))).charge 8 2)

/-- BRLC DE,B (R448; 8 ticks). -/
def execBrlc (s : State) : Out := .next ((s.setDe (s.de.rotateLeft s.rotateCount)).charge 8 2)

/-- MUL D,E (R449; 8 ticks). -/
def execMulDE (s : State) : Out := .next ((s.setDe (zext16 (hiByte s.de) * zext16 (loByte s.de))).charge 8 2)

/-- ADD HL,A (R450; 8 ticks). -/
def execAddHlA (s : State) : Out := .next ((s.setHl (s.hl + zext16 s.a)).charge 8 2)

/-- ADD HL,nn (R453; 16 ticks). -/
def execAddHlNn (nn : Word) (s : State) : Out := .next ((s.setHl (s.hl + nn)).charge 16 2)

/-- ADD DE,A (R451; 8 ticks). -/
def execAddDeA (s : State) : Out := .next ((s.setDe (s.de + zext16 s.a)).charge 8 2)

/-- ADD DE,nn (R454; 16 ticks). -/
def execAddDeNn (nn : Word) (s : State) : Out := .next ((s.setDe (s.de + nn)).charge 16 2)

/-- ADD BC,A (R452; 8 ticks). -/
def execAddBcA (s : State) : Out := .next ((s.setBc (s.bc + zext16 s.a)).charge 8 2)

/-- ADD BC,nn (R455; 16 ticks). -/
def execAddBcNn (nn : Word) (s : State) : Out := .next ((s.setBc (s.bc + nn)).charge 16 2)

/-- PUSH nn (R456; 23 ticks). -/
def execPushNn (nn : Word) (s : State) : Out := .next ((s.push16 nn).charge 23 2)

/-- OUTINB (R457; 16 ticks). -/
def execOutinb (s : State) : Out := .next ((((s.afterRead s.hl).portWrite s.bc (s.read s.hl)).setHl (s.hl + 1)).charge 16 2)

/-- NEXTREG n,v (R458; 20 ticks). -/
def execNextregN (n : Byte) (v : Byte) (s : State) : Out := .next ((s.extRegWrite n v).charge 20 2)

/-- NEXTREG n,A (R459; 17 ticks). -/
def execNextregA (n : Byte) (s : State) : Out := .next ((s.extRegWrite n s.a).charge 17 2)

/-- PIXELDN (R460; 8 ticks). -/
def execPixeldn (s : State) : Out := .next ((s.setHl (pixelDown s.hl)).charge 8 2)

/-- PIXELAD (R461; 8 ticks). -/
def execPixelad (s : State) : Out := .next ((s.setHl (pixelAddress (hiByte s.de) (loByte s.de))).charge 8 2)

/-- SETAE (R462; 8 ticks). -/
def execSetae (s : State) : Out := .next ((s.setA (0x80#8 >>> (loByte s.de &&& 7).toNat)).charge 8 2)

/-- JP (C) (R463; 13 ticks). -/
def execJpC (s : State) : Out := .next ((s.jumpPort).charge 13 2)

/-- LDIX (R464; 16 ticks). -/
def execLdix (s : State) : Out := .next ((s.blockLoadX 1).charge 16 2)

/-- LDWS (R465; 14 ticks). -/
def execLdws (s : State) : Out := .next ((s.ldws).charge 14 2)

/-- LDDX (R466; 16 ticks). -/
def execLddx (s : State) : Out := .next ((s.blockLoadX (-1)).charge 16 2)

/-- LDIRX (R467). -/
def execLdirx (s : State) : Out := .next ((s.blockLoadX 1).repeatKeepWz (fun t => t.bc != 0))

/-- LDPIRX (R468). -/
def execLdpirx (s : State) : Out := .next (s.patternLoad.repeatKeepWz (fun t => t.bc != 0))

/-- LDDRX (R469). -/
def execLddrx (s : State) : Out := .next ((s.blockLoadX (-1)).repeatKeepWz (fun t => t.bc != 0))

end Sys2Proof.Machine
end

