-- ==== Sys2Proof/Machine/Dispatch.lean ====
section
/-! DEFINITION. One arm per constructor: each calls its instruction's meaning. The meanings stand in the family files. -/

namespace Sys2Proof.Machine

def exec (i : Instr) (s : State) : Host.Outcome State Fault Refusal :=
  match i with
  -- 41_load.md
  | .ldRR r r2 => Sys2Proof.Machine.execLdRR r r2 s
  | .ldRRX x r r2 => Sys2Proof.Machine.execLdRRX x r r2 s
  | .ldRRXH x r r2 => Sys2Proof.Machine.execLdRRXH x r r2 s
  | .ldRN r n => Sys2Proof.Machine.execLdRN r n s
  | .ldRNX x r n => Sys2Proof.Machine.execLdRNX x r n s
  | .ldXHN x h n => Sys2Proof.Machine.execLdXHN x h n s
  | .ldRMHl r => Sys2Proof.Machine.execLdRMHl r s
  | .ldRMXd x r d => Sys2Proof.Machine.execLdRMXd x r d s
  | .ldMHlR r => Sys2Proof.Machine.execLdMHlR r s
  | .ldMXdR x r d => Sys2Proof.Machine.execLdMXdR x r d s
  | .ldMHlN n => Sys2Proof.Machine.execLdMHlN n s
  | .ldMXdN x d n => Sys2Proof.Machine.execLdMXdN x d n s
  | .ldABc => Sys2Proof.Machine.execLdABc s
  | .ldABcX x => Sys2Proof.Machine.execLdABcX x s
  | .ldADe => Sys2Proof.Machine.execLdADe s
  | .ldADeX x => Sys2Proof.Machine.execLdADeX x s
  | .ldAMem nn => Sys2Proof.Machine.execLdAMem nn s
  | .ldAMemX x nn => Sys2Proof.Machine.execLdAMemX x nn s
  | .ldBcA => Sys2Proof.Machine.execLdBcA s
  | .ldBcAX x => Sys2Proof.Machine.execLdBcAX x s
  | .ldDeA => Sys2Proof.Machine.execLdDeA s
  | .ldDeAX x => Sys2Proof.Machine.execLdDeAX x s
  | .ldMemA nn => Sys2Proof.Machine.execLdMemA nn s
  | .ldMemAX x nn => Sys2Proof.Machine.execLdMemAX x nn s
  | .ldAI => Sys2Proof.Machine.execLdAI s
  | .ldAR => Sys2Proof.Machine.execLdAR s
  | .ldIA => Sys2Proof.Machine.execLdIA s
  | .ldRA => Sys2Proof.Machine.execLdRA s
  | .ldRpNn p nn => Sys2Proof.Machine.execLdRpNn p nn s
  | .ldRpNnX x p nn => Sys2Proof.Machine.execLdRpNnX x p nn s
  | .ldXNn x nn => Sys2Proof.Machine.execLdXNn x nn s
  | .ldHlMem nn => Sys2Proof.Machine.execLdHlMem nn s
  | .ldXMem x nn => Sys2Proof.Machine.execLdXMem x nn s
  | .ldRpMem p nn => Sys2Proof.Machine.execLdRpMem p nn s
  | .ldMemHl nn => Sys2Proof.Machine.execLdMemHl nn s
  | .ldMemX x nn => Sys2Proof.Machine.execLdMemX x nn s
  | .ldMemRp p nn => Sys2Proof.Machine.execLdMemRp p nn s
  | .ldSpHl => Sys2Proof.Machine.execLdSpHl s
  | .ldSpX x => Sys2Proof.Machine.execLdSpX x s
  | .pushQ q => Sys2Proof.Machine.execPushQ q s
  | .pushQX x q => Sys2Proof.Machine.execPushQX x q s
  | .pushX x => Sys2Proof.Machine.execPushX x s
  | .popQ q => Sys2Proof.Machine.execPopQ q s
  | .popQX x q => Sys2Proof.Machine.execPopQX x q s
  | .popX x => Sys2Proof.Machine.execPopX x s
  -- 42_exchange_block.md
  | .exDeHl => Sys2Proof.Machine.execExDeHl s
  | .exDeHlX x => Sys2Proof.Machine.execExDeHlX x s
  | .exAf => Sys2Proof.Machine.execExAf s
  | .exAfX x => Sys2Proof.Machine.execExAfX x s
  | .exx => Sys2Proof.Machine.execExx s
  | .exxX x => Sys2Proof.Machine.execExxX x s
  | .exSpHl => Sys2Proof.Machine.execExSpHl s
  | .exSpX x => Sys2Proof.Machine.execExSpX x s
  | .ldi => Sys2Proof.Machine.execLdi s
  | .ldir => Sys2Proof.Machine.execLdir s
  | .ldd => Sys2Proof.Machine.execLdd s
  | .lddr => Sys2Proof.Machine.execLddr s
  | .cpi => Sys2Proof.Machine.execCpi s
  | .cpir => Sys2Proof.Machine.execCpir s
  | .cpd => Sys2Proof.Machine.execCpd s
  | .cpdr => Sys2Proof.Machine.execCpdr s
  -- 43_arith8_logic.md
  | .addR r => Sys2Proof.Machine.execAddR r s
  | .addRX x r => Sys2Proof.Machine.execAddRX x r s
  | .addXH x h => Sys2Proof.Machine.execAddXH x h s
  | .addN n => Sys2Proof.Machine.execAddN n s
  | .addNX x n => Sys2Proof.Machine.execAddNX x n s
  | .addMHl => Sys2Proof.Machine.execAddMHl s
  | .addMXd x d => Sys2Proof.Machine.execAddMXd x d s
  | .adcR r => Sys2Proof.Machine.execAdcR r s
  | .adcRX x r => Sys2Proof.Machine.execAdcRX x r s
  | .adcXH x h => Sys2Proof.Machine.execAdcXH x h s
  | .adcN n => Sys2Proof.Machine.execAdcN n s
  | .adcNX x n => Sys2Proof.Machine.execAdcNX x n s
  | .adcMHl => Sys2Proof.Machine.execAdcMHl s
  | .adcMXd x d => Sys2Proof.Machine.execAdcMXd x d s
  | .subR r => Sys2Proof.Machine.execSubR r s
  | .subRX x r => Sys2Proof.Machine.execSubRX x r s
  | .subXH x h => Sys2Proof.Machine.execSubXH x h s
  | .subN n => Sys2Proof.Machine.execSubN n s
  | .subNX x n => Sys2Proof.Machine.execSubNX x n s
  | .subMHl => Sys2Proof.Machine.execSubMHl s
  | .subMXd x d => Sys2Proof.Machine.execSubMXd x d s
  | .sbcR r => Sys2Proof.Machine.execSbcR r s
  | .sbcRX x r => Sys2Proof.Machine.execSbcRX x r s
  | .sbcXH x h => Sys2Proof.Machine.execSbcXH x h s
  | .sbcN n => Sys2Proof.Machine.execSbcN n s
  | .sbcNX x n => Sys2Proof.Machine.execSbcNX x n s
  | .sbcMHl => Sys2Proof.Machine.execSbcMHl s
  | .sbcMXd x d => Sys2Proof.Machine.execSbcMXd x d s
  | .andR r => Sys2Proof.Machine.execAndR r s
  | .andRX x r => Sys2Proof.Machine.execAndRX x r s
  | .andXH x h => Sys2Proof.Machine.execAndXH x h s
  | .andN n => Sys2Proof.Machine.execAndN n s
  | .andNX x n => Sys2Proof.Machine.execAndNX x n s
  | .andMHl => Sys2Proof.Machine.execAndMHl s
  | .andMXd x d => Sys2Proof.Machine.execAndMXd x d s
  | .xorR r => Sys2Proof.Machine.execXorR r s
  | .xorRX x r => Sys2Proof.Machine.execXorRX x r s
  | .xorXH x h => Sys2Proof.Machine.execXorXH x h s
  | .xorN n => Sys2Proof.Machine.execXorN n s
  | .xorNX x n => Sys2Proof.Machine.execXorNX x n s
  | .xorMHl => Sys2Proof.Machine.execXorMHl s
  | .xorMXd x d => Sys2Proof.Machine.execXorMXd x d s
  | .orR r => Sys2Proof.Machine.execOrR r s
  | .orRX x r => Sys2Proof.Machine.execOrRX x r s
  | .orXH x h => Sys2Proof.Machine.execOrXH x h s
  | .orN n => Sys2Proof.Machine.execOrN n s
  | .orNX x n => Sys2Proof.Machine.execOrNX x n s
  | .orMHl => Sys2Proof.Machine.execOrMHl s
  | .orMXd x d => Sys2Proof.Machine.execOrMXd x d s
  | .cpR r => Sys2Proof.Machine.execCpR r s
  | .cpRX x r => Sys2Proof.Machine.execCpRX x r s
  | .cpXH x h => Sys2Proof.Machine.execCpXH x h s
  | .cpN n => Sys2Proof.Machine.execCpN n s
  | .cpNX x n => Sys2Proof.Machine.execCpNX x n s
  | .cpMHl => Sys2Proof.Machine.execCpMHl s
  | .cpMXd x d => Sys2Proof.Machine.execCpMXd x d s
  | .incR r => Sys2Proof.Machine.execIncR r s
  | .incRX x r => Sys2Proof.Machine.execIncRX x r s
  | .incXH x h => Sys2Proof.Machine.execIncXH x h s
  | .incMHl => Sys2Proof.Machine.execIncMHl s
  | .incMXd x d => Sys2Proof.Machine.execIncMXd x d s
  | .decR r => Sys2Proof.Machine.execDecR r s
  | .decRX x r => Sys2Proof.Machine.execDecRX x r s
  | .decXH x h => Sys2Proof.Machine.execDecXH x h s
  | .decMHl => Sys2Proof.Machine.execDecMHl s
  | .decMXd x d => Sys2Proof.Machine.execDecMXd x d s
  -- 44_general_cpu_control.md
  | .daa => Sys2Proof.Machine.execDaa s
  | .daaX x => Sys2Proof.Machine.execDaaX x s
  | .cpl => Sys2Proof.Machine.execCpl s
  | .cplX x => Sys2Proof.Machine.execCplX x s
  | .neg y => Sys2Proof.Machine.execNeg y s
  | .ccf => Sys2Proof.Machine.execCcf s
  | .ccfX x => Sys2Proof.Machine.execCcfX x s
  | .scf => Sys2Proof.Machine.execScf s
  | .scfX x => Sys2Proof.Machine.execScfX x s
  | .nop => Sys2Proof.Machine.execNop s
  | .nopX x => Sys2Proof.Machine.execNopX x s
  | .halt => Sys2Proof.Machine.execHalt s
  | .haltX x => Sys2Proof.Machine.execHaltX x s
  | .di => Sys2Proof.Machine.execDi s
  | .diX x => Sys2Proof.Machine.execDiX x s
  | .ei => Sys2Proof.Machine.execEi s
  | .eiX x => Sys2Proof.Machine.execEiX x s
  | .im y => Sys2Proof.Machine.execIm y s
  | .extNoop op => Sys2Proof.Machine.execExtNoop op s
  -- 45_arith16.md
  | .addHlRp p => Sys2Proof.Machine.execAddHlRp p s
  | .addXRp x p => Sys2Proof.Machine.execAddXRp x p s
  | .adcHlRp p => Sys2Proof.Machine.execAdcHlRp p s
  | .sbcHlRp p => Sys2Proof.Machine.execSbcHlRp p s
  | .incRp p => Sys2Proof.Machine.execIncRp p s
  | .incRpX x p => Sys2Proof.Machine.execIncRpX x p s
  | .incX x => Sys2Proof.Machine.execIncX x s
  | .decRp p => Sys2Proof.Machine.execDecRp p s
  | .decRpX x p => Sys2Proof.Machine.execDecRpX x p s
  | .decX x => Sys2Proof.Machine.execDecX x s
  -- 46_rotate_shift_bit.md
  | .rlca => Sys2Proof.Machine.execRlca s
  | .rlcaX x => Sys2Proof.Machine.execRlcaX x s
  | .rla => Sys2Proof.Machine.execRla s
  | .rlaX x => Sys2Proof.Machine.execRlaX x s
  | .rrca => Sys2Proof.Machine.execRrca s
  | .rrcaX x => Sys2Proof.Machine.execRrcaX x s
  | .rra => Sys2Proof.Machine.execRra s
  | .rraX x => Sys2Proof.Machine.execRraX x s
  | .rlcR r => Sys2Proof.Machine.execRlcR r s
  | .rlcMHl => Sys2Proof.Machine.execRlcMHl s
  | .rlcMXdR x d r => Sys2Proof.Machine.execRlcMXdR x d r s
  | .rlcMXd x d => Sys2Proof.Machine.execRlcMXd x d s
  | .rrcR r => Sys2Proof.Machine.execRrcR r s
  | .rrcMHl => Sys2Proof.Machine.execRrcMHl s
  | .rrcMXdR x d r => Sys2Proof.Machine.execRrcMXdR x d r s
  | .rrcMXd x d => Sys2Proof.Machine.execRrcMXd x d s
  | .rlR r => Sys2Proof.Machine.execRlR r s
  | .rlMHl => Sys2Proof.Machine.execRlMHl s
  | .rlMXdR x d r => Sys2Proof.Machine.execRlMXdR x d r s
  | .rlMXd x d => Sys2Proof.Machine.execRlMXd x d s
  | .rrR r => Sys2Proof.Machine.execRrR r s
  | .rrMHl => Sys2Proof.Machine.execRrMHl s
  | .rrMXdR x d r => Sys2Proof.Machine.execRrMXdR x d r s
  | .rrMXd x d => Sys2Proof.Machine.execRrMXd x d s
  | .slaR r => Sys2Proof.Machine.execSlaR r s
  | .slaMHl => Sys2Proof.Machine.execSlaMHl s
  | .slaMXdR x d r => Sys2Proof.Machine.execSlaMXdR x d r s
  | .slaMXd x d => Sys2Proof.Machine.execSlaMXd x d s
  | .sraR r => Sys2Proof.Machine.execSraR r s
  | .sraMHl => Sys2Proof.Machine.execSraMHl s
  | .sraMXdR x d r => Sys2Proof.Machine.execSraMXdR x d r s
  | .sraMXd x d => Sys2Proof.Machine.execSraMXd x d s
  | .sllR r => Sys2Proof.Machine.execSllR r s
  | .sllMHl => Sys2Proof.Machine.execSllMHl s
  | .sllMXdR x d r => Sys2Proof.Machine.execSllMXdR x d r s
  | .sllMXd x d => Sys2Proof.Machine.execSllMXd x d s
  | .srlR r => Sys2Proof.Machine.execSrlR r s
  | .srlMHl => Sys2Proof.Machine.execSrlMHl s
  | .srlMXdR x d r => Sys2Proof.Machine.execSrlMXdR x d r s
  | .srlMXd x d => Sys2Proof.Machine.execSrlMXd x d s
  | .rld => Sys2Proof.Machine.execRld s
  | .rrd => Sys2Proof.Machine.execRrd s
  | .bitR b r => Sys2Proof.Machine.execBitR b r s
  | .bitMHl b => Sys2Proof.Machine.execBitMHl b s
  | .bitMXd x d b z => Sys2Proof.Machine.execBitMXd x d b z s
  | .setR b r => Sys2Proof.Machine.execSetR b r s
  | .setMHl b => Sys2Proof.Machine.execSetMHl b s
  | .setMXdR x d b r => Sys2Proof.Machine.execSetMXdR x d b r s
  | .setMXd x d b => Sys2Proof.Machine.execSetMXd x d b s
  | .resR b r => Sys2Proof.Machine.execResR b r s
  | .resMHl b => Sys2Proof.Machine.execResMHl b s
  | .resMXdR x d b r => Sys2Proof.Machine.execResMXdR x d b r s
  | .resMXd x d b => Sys2Proof.Machine.execResMXd x d b s
  -- 47_jump_call_return.md
  | .jp nn => Sys2Proof.Machine.execJp nn s
  | .jpX x nn => Sys2Proof.Machine.execJpX x nn s
  | .jpCc cc nn => Sys2Proof.Machine.execJpCc cc nn s
  | .jpCcX x cc nn => Sys2Proof.Machine.execJpCcX x cc nn s
  | .jr e => Sys2Proof.Machine.execJr e s
  | .jrX x e => Sys2Proof.Machine.execJrX x e s
  | .jrCc cc e => Sys2Proof.Machine.execJrCc cc e s
  | .jrCcX x cc e => Sys2Proof.Machine.execJrCcX x cc e s
  | .jpHl => Sys2Proof.Machine.execJpHl s
  | .jpIdx x => Sys2Proof.Machine.execJpIdx x s
  | .djnz e => Sys2Proof.Machine.execDjnz e s
  | .djnzX x e => Sys2Proof.Machine.execDjnzX x e s
  | .call nn => Sys2Proof.Machine.execCall nn s
  | .callX x nn => Sys2Proof.Machine.execCallX x nn s
  | .callCc cc nn => Sys2Proof.Machine.execCallCc cc nn s
  | .callCcX x cc nn => Sys2Proof.Machine.execCallCcX x cc nn s
  | .ret => Sys2Proof.Machine.execRet s
  | .retX x => Sys2Proof.Machine.execRetX x s
  | .retCc cc => Sys2Proof.Machine.execRetCc cc s
  | .retCcX x cc => Sys2Proof.Machine.execRetCcX x cc s
  | .reti => Sys2Proof.Machine.execReti s
  | .retn y => Sys2Proof.Machine.execRetn y s
  | .rst t => Sys2Proof.Machine.execRst t s
  | .rstX x t => Sys2Proof.Machine.execRstX x t s
  -- 48_io.md
  | .inAN n => Sys2Proof.Machine.execInAN n s
  | .inANX x n => Sys2Proof.Machine.execInANX x n s
  | .inRC r => Sys2Proof.Machine.execInRC r s
  | .inFC => Sys2Proof.Machine.execInFC s
  | .ini => Sys2Proof.Machine.execIni s
  | .inir => Sys2Proof.Machine.execInir s
  | .ind => Sys2Proof.Machine.execInd s
  | .indr => Sys2Proof.Machine.execIndr s
  | .outNA n => Sys2Proof.Machine.execOutNA n s
  | .outNAX x n => Sys2Proof.Machine.execOutNAX x n s
  | .outCR r => Sys2Proof.Machine.execOutCR r s
  | .outC0 => Sys2Proof.Machine.execOutC0 s
  | .outi => Sys2Proof.Machine.execOuti s
  | .otir => Sys2Proof.Machine.execOtir s
  | .outd => Sys2Proof.Machine.execOutd s
  | .otdr => Sys2Proof.Machine.execOtdr s
  -- 49_z80n_extended.md
  | .swapnib => Sys2Proof.Machine.execSwapnib s
  | .mirrorA => Sys2Proof.Machine.execMirrorA s
  | .testN n => Sys2Proof.Machine.execTestN n s
  | .bsla => Sys2Proof.Machine.execBsla s
  | .bsra => Sys2Proof.Machine.execBsra s
  | .bsrl => Sys2Proof.Machine.execBsrl s
  | .bsrf => Sys2Proof.Machine.execBsrf s
  | .brlc => Sys2Proof.Machine.execBrlc s
  | .mulDE => Sys2Proof.Machine.execMulDE s
  | .addHlA => Sys2Proof.Machine.execAddHlA s
  | .addHlNn nn => Sys2Proof.Machine.execAddHlNn nn s
  | .addDeA => Sys2Proof.Machine.execAddDeA s
  | .addDeNn nn => Sys2Proof.Machine.execAddDeNn nn s
  | .addBcA => Sys2Proof.Machine.execAddBcA s
  | .addBcNn nn => Sys2Proof.Machine.execAddBcNn nn s
  | .pushNn nn => Sys2Proof.Machine.execPushNn nn s
  | .outinb => Sys2Proof.Machine.execOutinb s
  | .nextregN n v => Sys2Proof.Machine.execNextregN n v s
  | .nextregA n => Sys2Proof.Machine.execNextregA n s
  | .pixeldn => Sys2Proof.Machine.execPixeldn s
  | .pixelad => Sys2Proof.Machine.execPixelad s
  | .setae => Sys2Proof.Machine.execSetae s
  | .jpC => Sys2Proof.Machine.execJpC s
  | .ldix => Sys2Proof.Machine.execLdix s
  | .ldws => Sys2Proof.Machine.execLdws s
  | .lddx => Sys2Proof.Machine.execLddx s
  | .ldirx => Sys2Proof.Machine.execLdirx s
  | .ldpirx => Sys2Proof.Machine.execLdpirx s
  | .lddrx => Sys2Proof.Machine.execLddrx s
  -- 30_encoding.md R102 and R103
  | .prefixCB => Sys2Proof.Machine.execPrefixCB s
  | .prefixDD => Sys2Proof.Machine.execPrefixDD s
  | .prefixED => Sys2Proof.Machine.execPrefixED s
  | .prefixFD => Sys2Proof.Machine.execPrefixFD s
  | .prefixCBX x => Sys2Proof.Machine.execPrefixCBX x s
  | .prefixAfterX x px => Sys2Proof.Machine.execPrefixAfterX x px s

end Sys2Proof.Machine
end

