-- ==== Sys2Proof/WellFormed.lean ====
section
/-! DEFINITION. Which terms of `Instr` are instructions of the opcode table under a configuration: the restrictions the
table puts on selectors (R93, R95, R97), RETN's encodings (R391), the holes of the extended table (R98) and the gate of
the extended subset (R440). -/

namespace Sys2Proof

/-- An extended-table code that files 41 to 48 assign nothing to (R98). -/
def extUnassigned (op : Byte) : Bool :=
  decide (op.toNat < 0x40) || decide (0xC0 ≤ op.toNat) || op == 0x77 || op == 0x7F ||
    (decide (0x80 ≤ op.toNat) && decide (op.toNat ≤ 0x9F)) ||
    (decide (0xA0 ≤ op.toNat) && decide (op.toNat ≤ 0xBF) && op.getLsbD 2)

/-- An extended-table code that is a no-op under `cfg` (R98, R302, R440). -/
def extHole (cfg : Config) (op : Byte) : Bool :=
  extUnassigned op && !(cfg.extOn op && z80nCodes.contains op)

/-- `i` is an instruction of the table under `cfg`. -/
def Instr.wf (cfg : Config) : Instr → Bool
  | .ldRR _ _ => true
  | .ldRRX _ r r2 => r.plain && r2.plain
  | .ldRRXH _ r r2 => !(r.plain && r2.plain)
  | .ldRN _ _ => true
  | .ldRNX _ r _ => r.plain
  | .ldXHN _ _ _ => true
  | .ldRMHl _ => true
  | .ldRMXd _ _ _ => true
  | .ldMHlR _ => true
  | .ldMXdR _ _ _ => true
  | .ldMHlN _ => true
  | .ldMXdN _ _ _ => true
  | .ldABc => true
  | .ldABcX _ => true
  | .ldADe => true
  | .ldADeX _ => true
  | .ldAMem _ => true
  | .ldAMemX _ _ => true
  | .ldBcA => true
  | .ldBcAX _ => true
  | .ldDeA => true
  | .ldDeAX _ => true
  | .ldMemA _ => true
  | .ldMemAX _ _ => true
  | .ldAI => true
  | .ldAR => true
  | .ldIA => true
  | .ldRA => true
  | .ldRpNn _ _ => true
  | .ldRpNnX _ p _ => p != .hl
  | .ldXNn _ _ => true
  | .ldHlMem _ => true
  | .ldXMem _ _ => true
  | .ldRpMem _ _ => true
  | .ldMemHl _ => true
  | .ldMemX _ _ => true
  | .ldMemRp _ _ => true
  | .ldSpHl => true
  | .ldSpX _ => true
  | .pushQ _ => true
  | .pushQX _ q => q != .hl
  | .pushX _ => true
  | .popQ _ => true
  | .popQX _ q => q != .hl
  | .popX _ => true
  | .exDeHl => true
  | .exDeHlX _ => true
  | .exAf => true
  | .exAfX _ => true
  | .exx => true
  | .exxX _ => true
  | .exSpHl => true
  | .exSpX _ => true
  | .ldi => true
  | .ldir => true
  | .ldd => true
  | .lddr => true
  | .cpi => true
  | .cpir => true
  | .cpd => true
  | .cpdr => true
  | .addR _ => true
  | .addRX _ r => r.plain
  | .addXH _ _ => true
  | .addN _ => true
  | .addNX _ _ => true
  | .addMHl => true
  | .addMXd _ _ => true
  | .adcR _ => true
  | .adcRX _ r => r.plain
  | .adcXH _ _ => true
  | .adcN _ => true
  | .adcNX _ _ => true
  | .adcMHl => true
  | .adcMXd _ _ => true
  | .subR _ => true
  | .subRX _ r => r.plain
  | .subXH _ _ => true
  | .subN _ => true
  | .subNX _ _ => true
  | .subMHl => true
  | .subMXd _ _ => true
  | .sbcR _ => true
  | .sbcRX _ r => r.plain
  | .sbcXH _ _ => true
  | .sbcN _ => true
  | .sbcNX _ _ => true
  | .sbcMHl => true
  | .sbcMXd _ _ => true
  | .andR _ => true
  | .andRX _ r => r.plain
  | .andXH _ _ => true
  | .andN _ => true
  | .andNX _ _ => true
  | .andMHl => true
  | .andMXd _ _ => true
  | .xorR _ => true
  | .xorRX _ r => r.plain
  | .xorXH _ _ => true
  | .xorN _ => true
  | .xorNX _ _ => true
  | .xorMHl => true
  | .xorMXd _ _ => true
  | .orR _ => true
  | .orRX _ r => r.plain
  | .orXH _ _ => true
  | .orN _ => true
  | .orNX _ _ => true
  | .orMHl => true
  | .orMXd _ _ => true
  | .cpR _ => true
  | .cpRX _ r => r.plain
  | .cpXH _ _ => true
  | .cpN _ => true
  | .cpNX _ _ => true
  | .cpMHl => true
  | .cpMXd _ _ => true
  | .incR _ => true
  | .incRX _ r => r.plain
  | .incXH _ _ => true
  | .incMHl => true
  | .incMXd _ _ => true
  | .decR _ => true
  | .decRX _ r => r.plain
  | .decXH _ _ => true
  | .decMHl => true
  | .decMXd _ _ => true
  | .daa => true
  | .daaX _ => true
  | .cpl => true
  | .cplX _ => true
  | .neg _ => true
  | .ccf => true
  | .ccfX _ => true
  | .scf => true
  | .scfX _ => true
  | .nop => true
  | .nopX _ => true
  | .halt => true
  | .haltX _ => true
  | .di => true
  | .diX _ => true
  | .ei => true
  | .eiX _ => true
  | .im _ => true
  | .extNoop op => extHole cfg op
  | .addHlRp _ => true
  | .addXRp _ _ => true
  | .adcHlRp _ => true
  | .sbcHlRp _ => true
  | .incRp _ => true
  | .incRpX _ p => p != .hl
  | .incX _ => true
  | .decRp _ => true
  | .decRpX _ p => p != .hl
  | .decX _ => true
  | .rlca => true
  | .rlcaX _ => true
  | .rla => true
  | .rlaX _ => true
  | .rrca => true
  | .rrcaX _ => true
  | .rra => true
  | .rraX _ => true
  | .rlcR _ => true
  | .rlcMHl => true
  | .rlcMXdR _ _ _ => true
  | .rlcMXd _ _ => true
  | .rrcR _ => true
  | .rrcMHl => true
  | .rrcMXdR _ _ _ => true
  | .rrcMXd _ _ => true
  | .rlR _ => true
  | .rlMHl => true
  | .rlMXdR _ _ _ => true
  | .rlMXd _ _ => true
  | .rrR _ => true
  | .rrMHl => true
  | .rrMXdR _ _ _ => true
  | .rrMXd _ _ => true
  | .slaR _ => true
  | .slaMHl => true
  | .slaMXdR _ _ _ => true
  | .slaMXd _ _ => true
  | .sraR _ => true
  | .sraMHl => true
  | .sraMXdR _ _ _ => true
  | .sraMXd _ _ => true
  | .sllR _ => true
  | .sllMHl => true
  | .sllMXdR _ _ _ => true
  | .sllMXd _ _ => true
  | .srlR _ => true
  | .srlMHl => true
  | .srlMXdR _ _ _ => true
  | .srlMXd _ _ => true
  | .rld => true
  | .rrd => true
  | .bitR _ _ => true
  | .bitMHl _ => true
  | .bitMXd _ _ _ _ => true
  | .setR _ _ => true
  | .setMHl _ => true
  | .setMXdR _ _ _ _ => true
  | .setMXd _ _ _ => true
  | .resR _ _ => true
  | .resMHl _ => true
  | .resMXdR _ _ _ _ => true
  | .resMXd _ _ _ => true
  | .jp _ => true
  | .jpX _ _ => true
  | .jpCc _ _ => true
  | .jpCcX _ _ _ => true
  | .jr _ => true
  | .jrX _ _ => true
  | .jrCc cc _ => cc.isJr
  | .jrCcX _ cc _ => cc.isJr
  | .jpHl => true
  | .jpIdx _ => true
  | .djnz _ => true
  | .djnzX _ _ => true
  | .call _ => true
  | .callX _ _ => true
  | .callCc _ _ => true
  | .callCcX _ _ _ => true
  | .ret => true
  | .retX _ => true
  | .retCc _ => true
  | .retCcX _ _ => true
  | .reti => true
  | .retn y => y != 1
  | .rst _ => true
  | .rstX _ _ => true
  | .inAN _ => true
  | .inANX _ _ => true
  | .inRC _ => true
  | .inFC => true
  | .ini => true
  | .inir => true
  | .ind => true
  | .indr => true
  | .outNA _ => true
  | .outNAX _ _ => true
  | .outCR _ => true
  | .outC0 => true
  | .outi => true
  | .otir => true
  | .outd => true
  | .otdr => true
  | .swapnib => cfg.extOn 0x23
  | .mirrorA => cfg.extOn 0x24
  | .testN _ => cfg.extOn 0x27
  | .bsla => cfg.extOn 0x28
  | .bsra => cfg.extOn 0x29
  | .bsrl => cfg.extOn 0x2A
  | .bsrf => cfg.extOn 0x2B
  | .brlc => cfg.extOn 0x2C
  | .mulDE => cfg.extOn 0x30
  | .addHlA => cfg.extOn 0x31
  | .addHlNn _ => cfg.extOn 0x34
  | .addDeA => cfg.extOn 0x32
  | .addDeNn _ => cfg.extOn 0x35
  | .addBcA => cfg.extOn 0x33
  | .addBcNn _ => cfg.extOn 0x36
  | .pushNn _ => cfg.extOn 0x8A
  | .outinb => cfg.extOn 0x90
  | .nextregN _ _ => cfg.extOn 0x91
  | .nextregA _ => cfg.extOn 0x92
  | .pixeldn => cfg.extOn 0x93
  | .pixelad => cfg.extOn 0x94
  | .setae => cfg.extOn 0x95
  | .jpC => cfg.extOn 0x98
  | .ldix => cfg.extOn 0xA4
  | .ldws => cfg.extOn 0xA5
  | .lddx => cfg.extOn 0xAC
  | .ldirx => cfg.extOn 0xB4
  | .ldpirx => cfg.extOn 0xB7
  | .lddrx => cfg.extOn 0xBC
  | .prefixCB => true
  | .prefixDD => true
  | .prefixED => true
  | .prefixFD => true
  | .prefixCBX _ => true
  | .prefixAfterX _ _ => true

end Sys2Proof
end

