-- ==== Sys2Proof/Decode.lean ====
section
/-! DEFINITION. The decoder: the five dispatch tables (R91, R108 to R111, R97), the classification of prefix bytes
(R102), whole instructions as byte lists, and after them the encoder, written from the opcode fields of the same rules. -/

namespace Sys2Proof

/-! ### Opcode fields and selectors (R92 to R95) -/

/-- `x = o[7:6]`. -/
def fieldX (o : Byte) : BitVec 2 := o.extractLsb' 6 2
/-- `y = o[5:3]`. -/
def fieldY (o : Byte) : BitVec 3 := o.extractLsb' 3 3
/-- `z = o[2:0]`. -/
def fieldZ (o : Byte) : BitVec 3 := o.extractLsb' 0 3
/-- `p = o[5:4]`. -/
def fieldP (o : Byte) : BitVec 2 := o.extractLsb' 4 2
/-- `q = o[3]`. -/
def fieldQ (o : Byte) : Bool := o.getLsbD 3

/-- The register a 3-bit selector names; selector 6 is never a register (R93). -/
def Reg8.ofSel (s : BitVec 3) : Option Reg8 :=
  match s with
  | 0 => some .b
  | 1 => some .c
  | 2 => some .d
  | 3 => some .e
  | 4 => some .h
  | 5 => some .l
  | 6 => none
  | _ => some .a

/-- `rp[p]` (R94). -/
def Rp.ofSel (p : BitVec 2) : Rp :=
  match p with
  | 0 => .bc
  | 1 => .de
  | 2 => .hl
  | _ => .sp

/-- `rp2[p]` (R94). -/
def Rp2.ofSel (p : BitVec 2) : Rp2 :=
  match p with
  | 0 => .bc
  | 1 => .de
  | 2 => .hl
  | _ => .af

/-- `cond(c)` (R95). -/
def Cond.ofSel (cc : BitVec 3) : Cond :=
  match cc with
  | 0 => .nz
  | 1 => .z
  | 2 => .nc
  | 3 => .c
  | 4 => .po
  | 5 => .pe
  | 6 => .p
  | _ => .m

/-! ### The base table (R108) and the bit table (R109) -/

/-- Base table, x = 0. `a` and `b` are the bytes after the opcode; the number is how many bytes the call fetches
(R107). -/
def decodeBase0 (o a b : Byte) : Instr × Nat :=
  let y := fieldY o
  let p := Rp.ofSel (fieldP o)
  let nn := joinBytes b a
  match fieldZ o with
  | 0 =>
    match y with
    | 0 => (.nop, 1)
    | 1 => (.exAf, 1)
    | 2 => (.djnz a, 2)
    | 3 => (.jr a, 2)
    | _ => (.jrCc (Cond.ofSel (y &&& 3)) a, 2)
  | 1 => if fieldQ o then (.addHlRp p, 1) else (.ldRpNn p nn, 3)
  | 2 =>
    match y with
    | 0 => (.ldBcA, 1)
    | 1 => (.ldABc, 1)
    | 2 => (.ldDeA, 1)
    | 3 => (.ldADe, 1)
    | 4 => (.ldMemHl nn, 3)
    | 5 => (.ldHlMem nn, 3)
    | 6 => (.ldMemA nn, 3)
    | _ => (.ldAMem nn, 3)
  | 3 => if fieldQ o then (.decRp p, 1) else (.incRp p, 1)
  | 4 =>
    match Reg8.ofSel y with
    | some r => (.incR r, 1)
    | none => (.incMHl, 1)
  | 5 =>
    match Reg8.ofSel y with
    | some r => (.decR r, 1)
    | none => (.decMHl, 1)
  | 6 =>
    match Reg8.ofSel y with
    | some r => (.ldRN r a, 2)
    | none => (.ldMHlN a, 2)
  | _ =>
    match y with
    | 0 => (.rlca, 1)
    | 1 => (.rrca, 1)
    | 2 => (.rla, 1)
    | 3 => (.rra, 1)
    | 4 => (.daa, 1)
    | 5 => (.cpl, 1)
    | 6 => (.scf, 1)
    | _ => (.ccf, 1)

/-- Base table, x = 1: LD r,r' with its memory forms and HALT. -/
def decodeBase1 (o : Byte) : Instr × Nat :=
  match Reg8.ofSel (fieldY o), Reg8.ofSel (fieldZ o) with
  | some r, some r2 => (.ldRR r r2, 1)
  | some r, none => (.ldRMHl r, 1)
  | none, some r => (.ldMHlR r, 1)
  | none, none => (.halt, 1)

/-- Base table, x = 2: the accumulator operations on r8[z] or (HL). -/
def decodeBase2 (o : Byte) : Instr × Nat :=
  match Reg8.ofSel (fieldZ o) with
  | some r =>
    match fieldY o with
    | 0 => (.addR r, 1)
    | 1 => (.adcR r, 1)
    | 2 => (.subR r, 1)
    | 3 => (.sbcR r, 1)
    | 4 => (.andR r, 1)
    | 5 => (.xorR r, 1)
    | 6 => (.orR r, 1)
    | _ => (.cpR r, 1)
  | none =>
    match fieldY o with
    | 0 => (.addMHl, 1)
    | 1 => (.adcMHl, 1)
    | 2 => (.subMHl, 1)
    | 3 => (.sbcMHl, 1)
    | 4 => (.andMHl, 1)
    | 5 => (.xorMHl, 1)
    | 6 => (.orMHl, 1)
    | _ => (.cpMHl, 1)

/-- Base table, x = 3, the four prefix bytes of R102 included. -/
def decodeBase3 (o a b : Byte) : Instr × Nat :=
  let y := fieldY o
  let cc := Cond.ofSel y
  let q := Rp2.ofSel (fieldP o)
  let nn := joinBytes b a
  match fieldZ o with
  | 0 => (.retCc cc, 1)
  | 1 =>
    if fieldQ o then
      match fieldP o with
      | 0 => (.ret, 1)
      | 1 => (.exx, 1)
      | 2 => (.jpHl, 1)
      | _ => (.ldSpHl, 1)
    else (.popQ q, 1)
  | 2 => (.jpCc cc nn, 3)
  | 3 =>
    match y with
    | 0 => (.jp nn, 3)
    | 1 => (.prefixCB, 1)
    | 2 => (.outNA a, 2)
    | 3 => (.inAN a, 2)
    | 4 => (.exSpHl, 1)
    | 5 => (.exDeHl, 1)
    | 6 => (.di, 1)
    | _ => (.ei, 1)
  | 4 => (.callCc cc nn, 3)
  | 5 =>
    if fieldQ o then
      match fieldP o with
      | 0 => (.call nn, 3)
      | 1 => (.prefixDD, 1)
      | 2 => (.prefixED, 1)
      | _ => (.prefixFD, 1)
    else (.pushQ q, 1)
  | 6 =>
    match y with
    | 0 => (.addN a, 2)
    | 1 => (.adcN a, 2)
    | 2 => (.subN a, 2)
    | 3 => (.sbcN a, 2)
    | 4 => (.andN a, 2)
    | 5 => (.xorN a, 2)
    | 6 => (.orN a, 2)
    | _ => (.cpN a, 2)
  | _ => (.rst y, 1)

/-- The base table (R108). -/
def decodeBase (o a b : Byte) : Instr × Nat :=
  match fieldX o with
  | 0 => decodeBase0 o a b
  | 1 => decodeBase1 o
  | 2 => decodeBase2 o
  | _ => decodeBase3 o a b

/-- The bit table (R109). -/
def decodeBit (o : Byte) : Instr :=
  let y := fieldY o
  match fieldX o, Reg8.ofSel (fieldZ o) with
  | 0, some r =>
    match y with
    | 0 => .rlcR r
    | 1 => .rrcR r
    | 2 => .rlR r
    | 3 => .rrR r
    | 4 => .slaR r
    | 5 => .sraR r
    | 6 => .sllR r
    | _ => .srlR r
  | 0, none =>
    match y with
    | 0 => .rlcMHl
    | 1 => .rrcMHl
    | 2 => .rlMHl
    | 3 => .rrMHl
    | 4 => .slaMHl
    | 5 => .sraMHl
    | 6 => .sllMHl
    | _ => .srlMHl
  | 1, some r => .bitR y r
  | 1, none => .bitMHl y
  | 2, some r => .resR y r
  | 2, none => .resMHl y
  | _, some r => .setR y r
  | _, none => .setMHl y

/-! ### The extended table (R110, R98, R440) -/

/-- The codes of 49_z80n_extended.md (R440). -/
def decodeZ80n (o a b : Byte) : Option (Instr × Nat) :=
  let nn := joinBytes b a
  match o with
  | 0x23 => some (.swapnib, 1)
  | 0x24 => some (.mirrorA, 1)
  | 0x27 => some (.testN a, 2)
  | 0x28 => some (.bsla, 1)
  | 0x29 => some (.bsra, 1)
  | 0x2A => some (.bsrl, 1)
  | 0x2B => some (.bsrf, 1)
  | 0x2C => some (.brlc, 1)
  | 0x30 => some (.mulDE, 1)
  | 0x31 => some (.addHlA, 1)
  | 0x32 => some (.addDeA, 1)
  | 0x33 => some (.addBcA, 1)
  | 0x34 => some (.addHlNn nn, 3)
  | 0x35 => some (.addDeNn nn, 3)
  | 0x36 => some (.addBcNn nn, 3)
  | 0x8A => some (.pushNn (joinBytes a b), 3)
  | 0x90 => some (.outinb, 1)
  | 0x91 => some (.nextregN a b, 3)
  | 0x92 => some (.nextregA a, 2)
  | 0x93 => some (.pixeldn, 1)
  | 0x94 => some (.pixelad, 1)
  | 0x95 => some (.setae, 1)
  | 0x98 => some (.jpC, 1)
  | 0xA4 => some (.ldix, 1)
  | 0xA5 => some (.ldws, 1)
  | 0xAC => some (.lddx, 1)
  | 0xB4 => some (.ldirx, 1)
  | 0xB7 => some (.ldpirx, 1)
  | 0xBC => some (.lddrx, 1)
  | _ => none

/-- Extended table, x = 1. -/
def decodeExtended1 (o a b : Byte) : Instr × Nat :=
  let y := fieldY o
  let p := Rp.ofSel (fieldP o)
  let nn := joinBytes b a
  match fieldZ o with
  | 0 =>
    match Reg8.ofSel y with
    | some r => (.inRC r, 1)
    | none => (.inFC, 1)
  | 1 =>
    match Reg8.ofSel y with
    | some r => (.outCR r, 1)
    | none => (.outC0, 1)
  | 2 => if fieldQ o then (.adcHlRp p, 1) else (.sbcHlRp p, 1)
  | 3 => if fieldQ o then (.ldRpMem p nn, 3) else (.ldMemRp p nn, 3)
  | 4 => (.neg y, 1)
  | 5 => if y = 1 then (.reti, 1) else (.retn y, 1)
  | 6 => (.im y, 1)
  | _ =>
    match y with
    | 0 => (.ldIA, 1)
    | 1 => (.ldRA, 1)
    | 2 => (.ldAI, 1)
    | 3 => (.ldAR, 1)
    | 4 => (.rrd, 1)
    | 5 => (.rld, 1)
    | _ => (.extNoop o, 1)

/-- Extended table, x = 2: the block instructions. -/
def decodeExtended2 (o : Byte) : Instr × Nat :=
  match fieldY o with
  | 4 =>
    match fieldZ o with
    | 0 => (.ldi, 1)
    | 1 => (.cpi, 1)
    | 2 => (.ini, 1)
    | 3 => (.outi, 1)
    | _ => (.extNoop o, 1)
  | 5 =>
    match fieldZ o with
    | 0 => (.ldd, 1)
    | 1 => (.cpd, 1)
    | 2 => (.ind, 1)
    | 3 => (.outd, 1)
    | _ => (.extNoop o, 1)
  | 6 =>
    match fieldZ o with
    | 0 => (.ldir, 1)
    | 1 => (.cpir, 1)
    | 2 => (.inir, 1)
    | 3 => (.otir, 1)
    | _ => (.extNoop o, 1)
  | 7 =>
    match fieldZ o with
    | 0 => (.lddr, 1)
    | 1 => (.cpdr, 1)
    | 2 => (.indr, 1)
    | 3 => (.otdr, 1)
    | _ => (.extNoop o, 1)
  | _ => (.extNoop o, 1)

/-- The extended table without the gated subset (R110): every unassigned code is a no-op (R98). -/
def decodeExtendedBase (o a b : Byte) : Instr × Nat :=
  match fieldX o with
  | 1 => decodeExtended1 o a b
  | 2 => decodeExtended2 o
  | _ => (.extNoop o, 1)

/-- The extended table (R110): a code of the gated subset is its instruction if the configuration dispatches it
(R440). -/
def decodeExtended (cfg : Config) (o a b : Byte) : Instr × Nat :=
  match decodeZ80n o a b with
  | some d => if cfg.extOn o then d else decodeExtendedBase o a b
  | none => decodeExtendedBase o a b

/-! ### The index table (R97) and the index+bit table (R111) -/

/-- Index table, x = 0. -/
def decodeIndex0 (x : Idx) (o a b : Byte) : Instr × Nat :=
  let y := fieldY o
  let p := Rp.ofSel (fieldP o)
  let nn := joinBytes b a
  match fieldZ o with
  | 0 =>
    match y with
    | 0 => (.nopX x, 1)
    | 1 => (.exAfX x, 1)
    | 2 => (.djnzX x a, 2)
    | 3 => (.jrX x a, 2)
    | _ => (.jrCcX x (Cond.ofSel (y &&& 3)) a, 2)
  | 1 => if fieldQ o then (.addXRp x p, 1) else if p = .hl then (.ldXNn x nn, 3) else (.ldRpNnX x p nn, 3)
  | 2 =>
    match y with
    | 0 => (.ldBcAX x, 1)
    | 1 => (.ldABcX x, 1)
    | 2 => (.ldDeAX x, 1)
    | 3 => (.ldADeX x, 1)
    | 4 => (.ldMemX x nn, 3)
    | 5 => (.ldXMem x nn, 3)
    | 6 => (.ldMemAX x nn, 3)
    | _ => (.ldAMemX x nn, 3)
  | 3 =>
    if fieldQ o then (if p = .hl then (.decX x, 1) else (.decRpX x p, 1))
    else if p = .hl then (.incX x, 1) else (.incRpX x p, 1)
  | 4 =>
    match Reg8.ofSel y with
    | some .h => (.incXH x .high, 1)
    | some .l => (.incXH x .low, 1)
    | some r => (.incRX x r, 1)
    | none => (.incMXd x a, 2)
  | 5 =>
    match Reg8.ofSel y with
    | some .h => (.decXH x .high, 1)
    | some .l => (.decXH x .low, 1)
    | some r => (.decRX x r, 1)
    | none => (.decMXd x a, 2)
  | 6 =>
    match Reg8.ofSel y with
    | some .h => (.ldXHN x .high a, 2)
    | some .l => (.ldXHN x .low a, 2)
    | some r => (.ldRNX x r a, 2)
    | none => (.ldMXdN x a b, 3)
  | _ =>
    match y with
    | 0 => (.rlcaX x, 1)
    | 1 => (.rrcaX x, 1)
    | 2 => (.rlaX x, 1)
    | 3 => (.rraX x, 1)
    | 4 => (.daaX x, 1)
    | 5 => (.cplX x, 1)
    | 6 => (.scfX x, 1)
    | _ => (.ccfX x, 1)

/-- Index table, x = 1: with a memory operand the other selector keeps H and L; without one it names XH and XL. -/
def decodeIndex1 (x : Idx) (o a : Byte) : Instr × Nat :=
  match Reg8.ofSel (fieldY o), Reg8.ofSel (fieldZ o) with
  | some r, some r2 => if r.plain && r2.plain then (.ldRRX x r r2, 1) else (.ldRRXH x r r2, 1)
  | some r, none => (.ldRMXd x r a, 2)
  | none, some r => (.ldMXdR x r a, 2)
  | none, none => (.haltX x, 1)

/-- Index table, x = 2, on XH or XL. -/
def decodeIndexAluHalf (x : Idx) (h : Half) (o : Byte) : Instr × Nat :=
  match fieldY o with
  | 0 => (.addXH x h, 1)
  | 1 => (.adcXH x h, 1)
  | 2 => (.subXH x h, 1)
  | 3 => (.sbcXH x h, 1)
  | 4 => (.andXH x h, 1)
  | 5 => (.xorXH x h, 1)
  | 6 => (.orXH x h, 1)
  | _ => (.cpXH x h, 1)

/-- Index table, x = 2: the accumulator operations. -/
def decodeIndex2 (x : Idx) (o a : Byte) : Instr × Nat :=
  match Reg8.ofSel (fieldZ o) with
  | some .h => decodeIndexAluHalf x .high o
  | some .l => decodeIndexAluHalf x .low o
  | some r =>
    match fieldY o with
    | 0 => (.addRX x r, 1)
    | 1 => (.adcRX x r, 1)
    | 2 => (.subRX x r, 1)
    | 3 => (.sbcRX x r, 1)
    | 4 => (.andRX x r, 1)
    | 5 => (.xorRX x r, 1)
    | 6 => (.orRX x r, 1)
    | _ => (.cpRX x r, 1)
  | none =>
    match fieldY o with
    | 0 => (.addMXd x a, 2)
    | 1 => (.adcMXd x a, 2)
    | 2 => (.subMXd x a, 2)
    | 3 => (.sbcMXd x a, 2)
    | 4 => (.andMXd x a, 2)
    | 5 => (.xorMXd x a, 2)
    | 6 => (.orMXd x a, 2)
    | _ => (.cpMXd x a, 2)

/-- Index table, x = 3, the prefixes after an index prefix included (R102). -/
def decodeIndex3 (x : Idx) (o a b : Byte) : Instr × Nat :=
  let y := fieldY o
  let cc := Cond.ofSel y
  let q := Rp2.ofSel (fieldP o)
  let nn := joinBytes b a
  match fieldZ o with
  | 0 => (.retCcX x cc, 1)
  | 1 =>
    if fieldQ o then
      match fieldP o with
      | 0 => (.retX x, 1)
      | 1 => (.exxX x, 1)
      | 2 => (.jpIdx x, 1)
      | _ => (.ldSpX x, 1)
    else if q = .hl then (.popX x, 1) else (.popQX x q, 1)
  | 2 => (.jpCcX x cc nn, 3)
  | 3 =>
    match y with
    | 0 => (.jpX x nn, 3)
    | 1 => (.prefixCBX x, 1)
    | 2 => (.outNAX x a, 2)
    | 3 => (.inANX x a, 2)
    | 4 => (.exSpX x, 1)
    | 5 => (.exDeHlX x, 1)
    | 6 => (.diX x, 1)
    | _ => (.eiX x, 1)
  | 4 => (.callCcX x cc nn, 3)
  | 5 =>
    if fieldQ o then
      match fieldP o with
      | 0 => (.callX x nn, 3)
      | 1 => (.prefixAfterX x .dd, 1)
      | 2 => (.prefixAfterX x .ed, 1)
      | _ => (.prefixAfterX x .fd, 1)
    else if q = .hl then (.pushX x, 1) else (.pushQX x q, 1)
  | 6 =>
    match y with
    | 0 => (.addNX x a, 2)
    | 1 => (.adcNX x a, 2)
    | 2 => (.subNX x a, 2)
    | 3 => (.sbcNX x a, 2)
    | 4 => (.andNX x a, 2)
    | 5 => (.xorNX x a, 2)
    | 6 => (.orNX x a, 2)
    | _ => (.cpNX x a, 2)
  | _ => (.rstX x y, 1)

/-- The index table (R97). -/
def decodeIndex (x : Idx) (o a b : Byte) : Instr × Nat :=
  match fieldX o with
  | 0 => decodeIndex0 x o a b
  | 1 => decodeIndex1 x o a
  | 2 => decodeIndex2 x o a
  | _ => decodeIndex3 x o a b

/-- The index+bit table for displacement `d` and opcode byte `o` (R111). -/
def decodeIndexBit (x : Idx) (d o : Byte) : Instr :=
  let y := fieldY o
  match fieldX o, Reg8.ofSel (fieldZ o) with
  | 0, some r =>
    match y with
    | 0 => .rlcMXdR x d r
    | 1 => .rrcMXdR x d r
    | 2 => .rlMXdR x d r
    | 3 => .rrMXdR x d r
    | 4 => .slaMXdR x d r
    | 5 => .sraMXdR x d r
    | 6 => .sllMXdR x d r
    | _ => .srlMXdR x d r
  | 0, none =>
    match y with
    | 0 => .rlcMXd x d
    | 1 => .rrcMXd x d
    | 2 => .rlMXd x d
    | 3 => .rrMXd x d
    | 4 => .slaMXd x d
    | 5 => .sraMXd x d
    | 6 => .sllMXd x d
    | _ => .srlMXd x d
  | 1, _ => .bitMXd x d y (fieldZ o)
  | 2, some r => .resMXdR x d y r
  | 2, none => .resMXd x d y
  | _, some r => .setMXdR x d y r
  | _, none => .setMXd x d y

/-! ### One call, and whole instructions -/

/-- The instruction a call runs in decoder state `st` when the bytes at PC are `b0`, `b1`, `b2`, and how many of them the
call fetches (R91, R101 to R103, R107). Total: no encoding is illegal (R99). A call that consumes a prefix byte runs
that prefix's instruction. -/
def decodeCall (cfg : Config) (st : DecoderState) (b0 b1 b2 : Byte) : Instr × Nat :=
  match st with
  | .idle => decodeBase b0 b1 b2
  | .indexPending x => decodeIndex x b0 b1 b2
  | .bitPending => (decodeBit b0, 1)
  | .extendedPending => decodeExtended cfg b0 b1 b2
  | .indexBitPending x => (decodeIndexBit x b0 b1, 2)

/-- The classification of R102: the next decoder state if `b`, fetched in state `st`, is a prefix byte; none if it is
a terminal opcode (or, in IndexBitPending, a displacement). -/
def prefixState (st : DecoderState) (b : Byte) : Option DecoderState :=
  match st with
  | .idle =>
    match b with
    | 0xDD => some (.indexPending .ix)
    | 0xFD => some (.indexPending .iy)
    | 0xED => some .extendedPending
    | 0xCB => some .bitPending
    | _ => none
  | .indexPending x =>
    match b with
    | 0xDD => some (.indexPending .ix)
    | 0xFD => some (.indexPending .iy)
    | 0xED => some .extendedPending
    | 0xCB => some (.indexBitPending x)
    | _ => none
  | .bitPending => none
  | .extendedPending => none
  | .indexBitPending _ => none

/-- "the instruction was EI" (R105), with or without index prefixes; no other instruction is. -/
def Instr.isEi : Instr → Bool
  | .ei => true
  | .eiX _ => true
  | _ => false

/-- The row of the opcode table that a byte list spells from decoder state `st`, and how many bytes it has, prefixes
included. A list that ends in a prefix byte spells that prefix's row; operand bytes beyond the list read as 0. -/
def decodeRow (cfg : Config) : DecoderState → List Byte → Option (Instr × Nat)
  | _, [] => none
  | st, b :: bs =>
    match prefixState st b with
    | some st' =>
      if bs.isEmpty then some (decodeCall cfg st b 0 0)
      else (decodeRow cfg st' bs).map (fun d => (d.1, d.2 + 1))
    | none => some (decodeCall cfg st b (bs.getD 0 0) (bs.getD 1 0))

/-- Why a byte list is not one instruction. No byte sequence is illegal on this core (R99), so these are all. -/
inductive DecodeError where
  /-- the list is empty -/
  | noBytes
  /-- the instruction has operand bytes beyond the list -/
  | truncated
  /-- the list goes on after the instruction -/
  | trailingBytes
  deriving DecidableEq, Repr

/-- The instruction that a byte list is, prefix bytes included. -/
def decodeBytes (cfg : Config) (bs : List Byte) : Except DecodeError Instr :=
  match decodeRow cfg .idle bs with
  | none => .error .noBytes
  | some (i, n) =>
    if bs.length < n then .error .truncated else if n < bs.length then .error .trailingBytes else .ok i

/-- The first `n` bytes of a word whose bit 0 is the least significant bit of the first byte. -/
def wordBytes : Nat → Nat → List Byte
  | 0, _ => []
  | n + 1, w => BitVec.ofNat 8 w :: wordBytes n (w / 256)

/-- How many leading bytes of a list are prefix and opcode bytes; the displacement before the opcode byte of the
index+bit shape counts with it (R90, R107). -/
def opcodeLength : DecoderState → List Byte → Nat
  | _, [] => 0
  | .indexBitPending _, _ :: _ => 2
  | .idle, b :: bs => (match prefixState .idle b with | some st => opcodeLength st bs | none => 0) + 1
  | .indexPending x, b :: bs =>
    (match prefixState (.indexPending x) b with | some st => opcodeLength st bs | none => 0) + 1
  | .bitPending, _ :: _ => 1
  | .extendedPending, _ :: _ => 1

/-- The bytes of an opcode-table word of `nbits` bits: bit 0 is the least significant bit of the first byte. The table
writes a row's opcode bytes as one hexadecimal string, first byte leftmost, and gives operands no bits; a word that, read
from its low end, is not exactly a row's opcode bytes but, read from its high end, is, has been taken from that string as
one number, and is read so (log entry 5). -/
def tableBytes (nbits w : Nat) : List Byte :=
  let bs := wordBytes ((nbits + 7) / 8) w
  if opcodeLength .idle bs ≠ bs.length ∧ opcodeLength .idle bs.reverse = bs.length then bs.reverse else bs

/-- The instruction the decoder reads from an opcode-table word; bits above `nbits` are 0. Every row of the table is an
instruction here, the extended subset included (log entry 5). -/
def decodeTableWord (nbits w : Nat) : Option Instr :=
  (decodeRow Config.allRows .idle (tableBytes nbits w)).map Prod.fst

/-! ### The encoder -/

/-- The opcode byte of the fields x, y, z (R92). -/
def opc (x : BitVec 2) (y z : BitVec 3) : Byte := x ++ y ++ z

/-- The opcode byte of the fields x, p, q, z (R92). -/
def opcP (x p : BitVec 2) (q : BitVec 1) (z : BitVec 3) : Byte := x ++ p ++ q ++ z

/-- The selector of a register (R93). -/
def Reg8.sel : Reg8 → BitVec 3
  | .b => 0
  | .c => 1
  | .d => 2
  | .e => 3
  | .h => 4
  | .l => 5
  | .a => 7

/-- The selector of XH or XL (R93). -/
def Half.sel : Half → BitVec 3
  | .high => 4
  | .low => 5

/-- The selector of a pair (R94). -/
def Rp.sel : Rp → BitVec 2
  | .bc => 0
  | .de => 1
  | .hl => 2
  | .sp => 3

/-- The selector of a pair (R94). -/
def Rp2.sel : Rp2 → BitVec 2
  | .bc => 0
  | .de => 1
  | .hl => 2
  | .af => 3

/-- The selector of a condition (R95). -/
def Cond.sel : Cond → BitVec 3
  | .nz => 0
  | .z => 1
  | .nc => 2
  | .c => 3
  | .po => 4
  | .pe => 5
  | .p => 6
  | .m => 7

/-- Bits 5:3 of `JR cc,e`: a 1 and the condition's two bits (R383). -/
def Cond.selJr (cc : Cond) : BitVec 3 := 4 ||| cc.sel

/-- The index prefix byte (R97). -/
def Idx.prefixByte : Idx → Byte
  | .ix => 0xDD
  | .iy => 0xFD

/-- The prefix byte after an index prefix (R102). -/
def IdxPrefix.byte : IdxPrefix → Byte
  | .dd => 0xDD
  | .fd => 0xFD
  | .ed => 0xED

/-- The bytes of an instruction, its prefix bytes first (R90, R107 to R111). -/
def encode : Instr → List Byte
  | .ldRR r r2 => [opc 1 r.sel r2.sel]
  | .ldRRX x r r2 => [x.prefixByte, opc 1 r.sel r2.sel]
  | .ldRRXH x r r2 => [x.prefixByte, opc 1 r.sel r2.sel]
  | .ldRN r n => [opc 0 r.sel 6, n]
  | .ldRNX x r n => [x.prefixByte, opc 0 r.sel 6, n]
  | .ldXHN x h n => [x.prefixByte, opc 0 h.sel 6, n]
  | .ldRMHl r => [opc 1 r.sel 6]
  | .ldRMXd x r d => [x.prefixByte, opc 1 r.sel 6, d]
  | .ldMHlR r => [opc 1 6 r.sel]
  | .ldMXdR x r d => [x.prefixByte, opc 1 6 r.sel, d]
  | .ldMHlN n => [0x36, n]
  | .ldMXdN x d n => [x.prefixByte, 0x36, d, n]
  | .ldABc => [0x0A]
  | .ldABcX x => [x.prefixByte, 0x0A]
  | .ldADe => [0x1A]
  | .ldADeX x => [x.prefixByte, 0x1A]
  | .ldAMem nn => [0x3A, loByte nn, hiByte nn]
  | .ldAMemX x nn => [x.prefixByte, 0x3A, loByte nn, hiByte nn]
  | .ldBcA => [0x02]
  | .ldBcAX x => [x.prefixByte, 0x02]
  | .ldDeA => [0x12]
  | .ldDeAX x => [x.prefixByte, 0x12]
  | .ldMemA nn => [0x32, loByte nn, hiByte nn]
  | .ldMemAX x nn => [x.prefixByte, 0x32, loByte nn, hiByte nn]
  | .ldAI => [0xED, 0x57]
  | .ldAR => [0xED, 0x5F]
  | .ldIA => [0xED, 0x47]
  | .ldRA => [0xED, 0x4F]
  | .ldRpNn p nn => [opcP 0 p.sel 0 1, loByte nn, hiByte nn]
  | .ldRpNnX x p nn => [x.prefixByte, opcP 0 p.sel 0 1, loByte nn, hiByte nn]
  | .ldXNn x nn => [x.prefixByte, 0x21, loByte nn, hiByte nn]
  | .ldHlMem nn => [0x2A, loByte nn, hiByte nn]
  | .ldXMem x nn => [x.prefixByte, 0x2A, loByte nn, hiByte nn]
  | .ldRpMem p nn => [0xED, opcP 1 p.sel 1 3, loByte nn, hiByte nn]
  | .ldMemHl nn => [0x22, loByte nn, hiByte nn]
  | .ldMemX x nn => [x.prefixByte, 0x22, loByte nn, hiByte nn]
  | .ldMemRp p nn => [0xED, opcP 1 p.sel 0 3, loByte nn, hiByte nn]
  | .ldSpHl => [0xF9]
  | .ldSpX x => [x.prefixByte, 0xF9]
  | .pushQ q => [opcP 3 q.sel 0 5]
  | .pushQX x q => [x.prefixByte, opcP 3 q.sel 0 5]
  | .pushX x => [x.prefixByte, 0xE5]
  | .popQ q => [opcP 3 q.sel 0 1]
  | .popQX x q => [x.prefixByte, opcP 3 q.sel 0 1]
  | .popX x => [x.prefixByte, 0xE1]
  | .exDeHl => [0xEB]
  | .exDeHlX x => [x.prefixByte, 0xEB]
  | .exAf => [0x08]
  | .exAfX x => [x.prefixByte, 0x08]
  | .exx => [0xD9]
  | .exxX x => [x.prefixByte, 0xD9]
  | .exSpHl => [0xE3]
  | .exSpX x => [x.prefixByte, 0xE3]
  | .ldi => [0xED, 0xA0]
  | .ldir => [0xED, 0xB0]
  | .ldd => [0xED, 0xA8]
  | .lddr => [0xED, 0xB8]
  | .cpi => [0xED, 0xA1]
  | .cpir => [0xED, 0xB1]
  | .cpd => [0xED, 0xA9]
  | .cpdr => [0xED, 0xB9]
  | .addR r => [opc 2 0 r.sel]
  | .addRX x r => [x.prefixByte, opc 2 0 r.sel]
  | .addXH x h => [x.prefixByte, opc 2 0 h.sel]
  | .addN n => [opc 3 0 6, n]
  | .addNX x n => [x.prefixByte, opc 3 0 6, n]
  | .addMHl => [opc 2 0 6]
  | .addMXd x d => [x.prefixByte, opc 2 0 6, d]
  | .adcR r => [opc 2 1 r.sel]
  | .adcRX x r => [x.prefixByte, opc 2 1 r.sel]
  | .adcXH x h => [x.prefixByte, opc 2 1 h.sel]
  | .adcN n => [opc 3 1 6, n]
  | .adcNX x n => [x.prefixByte, opc 3 1 6, n]
  | .adcMHl => [opc 2 1 6]
  | .adcMXd x d => [x.prefixByte, opc 2 1 6, d]
  | .subR r => [opc 2 2 r.sel]
  | .subRX x r => [x.prefixByte, opc 2 2 r.sel]
  | .subXH x h => [x.prefixByte, opc 2 2 h.sel]
  | .subN n => [opc 3 2 6, n]
  | .subNX x n => [x.prefixByte, opc 3 2 6, n]
  | .subMHl => [opc 2 2 6]
  | .subMXd x d => [x.prefixByte, opc 2 2 6, d]
  | .sbcR r => [opc 2 3 r.sel]
  | .sbcRX x r => [x.prefixByte, opc 2 3 r.sel]
  | .sbcXH x h => [x.prefixByte, opc 2 3 h.sel]
  | .sbcN n => [opc 3 3 6, n]
  | .sbcNX x n => [x.prefixByte, opc 3 3 6, n]
  | .sbcMHl => [opc 2 3 6]
  | .sbcMXd x d => [x.prefixByte, opc 2 3 6, d]
  | .andR r => [opc 2 4 r.sel]
  | .andRX x r => [x.prefixByte, opc 2 4 r.sel]
  | .andXH x h => [x.prefixByte, opc 2 4 h.sel]
  | .andN n => [opc 3 4 6, n]
  | .andNX x n => [x.prefixByte, opc 3 4 6, n]
  | .andMHl => [opc 2 4 6]
  | .andMXd x d => [x.prefixByte, opc 2 4 6, d]
  | .xorR r => [opc 2 5 r.sel]
  | .xorRX x r => [x.prefixByte, opc 2 5 r.sel]
  | .xorXH x h => [x.prefixByte, opc 2 5 h.sel]
  | .xorN n => [opc 3 5 6, n]
  | .xorNX x n => [x.prefixByte, opc 3 5 6, n]
  | .xorMHl => [opc 2 5 6]
  | .xorMXd x d => [x.prefixByte, opc 2 5 6, d]
  | .orR r => [opc 2 6 r.sel]
  | .orRX x r => [x.prefixByte, opc 2 6 r.sel]
  | .orXH x h => [x.prefixByte, opc 2 6 h.sel]
  | .orN n => [opc 3 6 6, n]
  | .orNX x n => [x.prefixByte, opc 3 6 6, n]
  | .orMHl => [opc 2 6 6]
  | .orMXd x d => [x.prefixByte, opc 2 6 6, d]
  | .cpR r => [opc 2 7 r.sel]
  | .cpRX x r => [x.prefixByte, opc 2 7 r.sel]
  | .cpXH x h => [x.prefixByte, opc 2 7 h.sel]
  | .cpN n => [opc 3 7 6, n]
  | .cpNX x n => [x.prefixByte, opc 3 7 6, n]
  | .cpMHl => [opc 2 7 6]
  | .cpMXd x d => [x.prefixByte, opc 2 7 6, d]
  | .incR r => [opc 0 r.sel 4]
  | .incRX x r => [x.prefixByte, opc 0 r.sel 4]
  | .incXH x h => [x.prefixByte, opc 0 h.sel 4]
  | .incMHl => [0x34]
  | .incMXd x d => [x.prefixByte, 0x34, d]
  | .decR r => [opc 0 r.sel 5]
  | .decRX x r => [x.prefixByte, opc 0 r.sel 5]
  | .decXH x h => [x.prefixByte, opc 0 h.sel 5]
  | .decMHl => [0x35]
  | .decMXd x d => [x.prefixByte, 0x35, d]
  | .daa => [0x27]
  | .daaX x => [x.prefixByte, 0x27]
  | .cpl => [0x2F]
  | .cplX x => [x.prefixByte, 0x2F]
  | .neg y => [0xED, opc 1 y 4]
  | .ccf => [0x3F]
  | .ccfX x => [x.prefixByte, 0x3F]
  | .scf => [0x37]
  | .scfX x => [x.prefixByte, 0x37]
  | .nop => [0x00]
  | .nopX x => [x.prefixByte, 0x00]
  | .halt => [0x76]
  | .haltX x => [x.prefixByte, 0x76]
  | .di => [0xF3]
  | .diX x => [x.prefixByte, 0xF3]
  | .ei => [0xFB]
  | .eiX x => [x.prefixByte, 0xFB]
  | .im y => [0xED, opc 1 y 6]
  | .extNoop op => [0xED, op]
  | .addHlRp p => [opcP 0 p.sel 1 1]
  | .addXRp x p => [x.prefixByte, opcP 0 p.sel 1 1]
  | .adcHlRp p => [0xED, opcP 1 p.sel 1 2]
  | .sbcHlRp p => [0xED, opcP 1 p.sel 0 2]
  | .incRp p => [opcP 0 p.sel 0 3]
  | .incRpX x p => [x.prefixByte, opcP 0 p.sel 0 3]
  | .incX x => [x.prefixByte, 0x23]
  | .decRp p => [opcP 0 p.sel 1 3]
  | .decRpX x p => [x.prefixByte, opcP 0 p.sel 1 3]
  | .decX x => [x.prefixByte, 0x2B]
  | .rlca => [0x07]
  | .rlcaX x => [x.prefixByte, 0x07]
  | .rla => [0x17]
  | .rlaX x => [x.prefixByte, 0x17]
  | .rrca => [0x0F]
  | .rrcaX x => [x.prefixByte, 0x0F]
  | .rra => [0x1F]
  | .rraX x => [x.prefixByte, 0x1F]
  | .rlcR r => [0xCB, opc 0 0 r.sel]
  | .rlcMHl => [0xCB, opc 0 0 6]
  | .rlcMXdR x d r => [x.prefixByte, 0xCB, d, opc 0 0 r.sel]
  | .rlcMXd x d => [x.prefixByte, 0xCB, d, opc 0 0 6]
  | .rrcR r => [0xCB, opc 0 1 r.sel]
  | .rrcMHl => [0xCB, opc 0 1 6]
  | .rrcMXdR x d r => [x.prefixByte, 0xCB, d, opc 0 1 r.sel]
  | .rrcMXd x d => [x.prefixByte, 0xCB, d, opc 0 1 6]
  | .rlR r => [0xCB, opc 0 2 r.sel]
  | .rlMHl => [0xCB, opc 0 2 6]
  | .rlMXdR x d r => [x.prefixByte, 0xCB, d, opc 0 2 r.sel]
  | .rlMXd x d => [x.prefixByte, 0xCB, d, opc 0 2 6]
  | .rrR r => [0xCB, opc 0 3 r.sel]
  | .rrMHl => [0xCB, opc 0 3 6]
  | .rrMXdR x d r => [x.prefixByte, 0xCB, d, opc 0 3 r.sel]
  | .rrMXd x d => [x.prefixByte, 0xCB, d, opc 0 3 6]
  | .slaR r => [0xCB, opc 0 4 r.sel]
  | .slaMHl => [0xCB, opc 0 4 6]
  | .slaMXdR x d r => [x.prefixByte, 0xCB, d, opc 0 4 r.sel]
  | .slaMXd x d => [x.prefixByte, 0xCB, d, opc 0 4 6]
  | .sraR r => [0xCB, opc 0 5 r.sel]
  | .sraMHl => [0xCB, opc 0 5 6]
  | .sraMXdR x d r => [x.prefixByte, 0xCB, d, opc 0 5 r.sel]
  | .sraMXd x d => [x.prefixByte, 0xCB, d, opc 0 5 6]
  | .sllR r => [0xCB, opc 0 6 r.sel]
  | .sllMHl => [0xCB, opc 0 6 6]
  | .sllMXdR x d r => [x.prefixByte, 0xCB, d, opc 0 6 r.sel]
  | .sllMXd x d => [x.prefixByte, 0xCB, d, opc 0 6 6]
  | .srlR r => [0xCB, opc 0 7 r.sel]
  | .srlMHl => [0xCB, opc 0 7 6]
  | .srlMXdR x d r => [x.prefixByte, 0xCB, d, opc 0 7 r.sel]
  | .srlMXd x d => [x.prefixByte, 0xCB, d, opc 0 7 6]
  | .rld => [0xED, 0x6F]
  | .rrd => [0xED, 0x67]
  | .bitR b r => [0xCB, opc 1 b r.sel]
  | .bitMHl b => [0xCB, opc 1 b 6]
  | .bitMXd x d b z => [x.prefixByte, 0xCB, d, opc 1 b z]
  | .setR b r => [0xCB, opc 3 b r.sel]
  | .setMHl b => [0xCB, opc 3 b 6]
  | .setMXdR x d b r => [x.prefixByte, 0xCB, d, opc 3 b r.sel]
  | .setMXd x d b => [x.prefixByte, 0xCB, d, opc 3 b 6]
  | .resR b r => [0xCB, opc 2 b r.sel]
  | .resMHl b => [0xCB, opc 2 b 6]
  | .resMXdR x d b r => [x.prefixByte, 0xCB, d, opc 2 b r.sel]
  | .resMXd x d b => [x.prefixByte, 0xCB, d, opc 2 b 6]
  | .jp nn => [0xC3, loByte nn, hiByte nn]
  | .jpX x nn => [x.prefixByte, 0xC3, loByte nn, hiByte nn]
  | .jpCc cc nn => [opc 3 cc.sel 2, loByte nn, hiByte nn]
  | .jpCcX x cc nn => [x.prefixByte, opc 3 cc.sel 2, loByte nn, hiByte nn]
  | .jr e => [0x18, e]
  | .jrX x e => [x.prefixByte, 0x18, e]
  | .jrCc cc e => [opc 0 cc.selJr 0, e]
  | .jrCcX x cc e => [x.prefixByte, opc 0 cc.selJr 0, e]
  | .jpHl => [0xE9]
  | .jpIdx x => [x.prefixByte, 0xE9]
  | .djnz e => [0x10, e]
  | .djnzX x e => [x.prefixByte, 0x10, e]
  | .call nn => [0xCD, loByte nn, hiByte nn]
  | .callX x nn => [x.prefixByte, 0xCD, loByte nn, hiByte nn]
  | .callCc cc nn => [opc 3 cc.sel 4, loByte nn, hiByte nn]
  | .callCcX x cc nn => [x.prefixByte, opc 3 cc.sel 4, loByte nn, hiByte nn]
  | .ret => [0xC9]
  | .retX x => [x.prefixByte, 0xC9]
  | .retCc cc => [opc 3 cc.sel 0]
  | .retCcX x cc => [x.prefixByte, opc 3 cc.sel 0]
  | .reti => [0xED, 0x4D]
  | .retn y => [0xED, opc 1 y 5]
  | .rst t => [opc 3 t 7]
  | .rstX x t => [x.prefixByte, opc 3 t 7]
  | .inAN n => [0xDB, n]
  | .inANX x n => [x.prefixByte, 0xDB, n]
  | .inRC r => [0xED, opc 1 r.sel 0]
  | .inFC => [0xED, 0x70]
  | .ini => [0xED, 0xA2]
  | .inir => [0xED, 0xB2]
  | .ind => [0xED, 0xAA]
  | .indr => [0xED, 0xBA]
  | .outNA n => [0xD3, n]
  | .outNAX x n => [x.prefixByte, 0xD3, n]
  | .outCR r => [0xED, opc 1 r.sel 1]
  | .outC0 => [0xED, 0x71]
  | .outi => [0xED, 0xA3]
  | .otir => [0xED, 0xB3]
  | .outd => [0xED, 0xAB]
  | .otdr => [0xED, 0xBB]
  | .swapnib => [0xED, 0x23]
  | .mirrorA => [0xED, 0x24]
  | .testN n => [0xED, 0x27, n]
  | .bsla => [0xED, 0x28]
  | .bsra => [0xED, 0x29]
  | .bsrl => [0xED, 0x2A]
  | .bsrf => [0xED, 0x2B]
  | .brlc => [0xED, 0x2C]
  | .mulDE => [0xED, 0x30]
  | .addHlA => [0xED, 0x31]
  | .addHlNn nn => [0xED, 0x34, loByte nn, hiByte nn]
  | .addDeA => [0xED, 0x32]
  | .addDeNn nn => [0xED, 0x35, loByte nn, hiByte nn]
  | .addBcA => [0xED, 0x33]
  | .addBcNn nn => [0xED, 0x36, loByte nn, hiByte nn]
  | .pushNn nn => [0xED, 0x8A, hiByte nn, loByte nn]
  | .outinb => [0xED, 0x90]
  | .nextregN n v => [0xED, 0x91, n, v]
  | .nextregA n => [0xED, 0x92, n]
  | .pixeldn => [0xED, 0x93]
  | .pixelad => [0xED, 0x94]
  | .setae => [0xED, 0x95]
  | .jpC => [0xED, 0x98]
  | .ldix => [0xED, 0xA4]
  | .ldws => [0xED, 0xA5]
  | .lddx => [0xED, 0xAC]
  | .ldirx => [0xED, 0xB4]
  | .ldpirx => [0xED, 0xB7]
  | .lddrx => [0xED, 0xBC]
  | .prefixCB => [0xCB]
  | .prefixDD => [0xDD]
  | .prefixED => [0xED]
  | .prefixFD => [0xFD]
  | .prefixCBX x => [x.prefixByte, 0xCB]
  | .prefixAfterX x px => [x.prefixByte, px.byte]

end Sys2Proof
end

