-- ==== Sys2Proof/Machine/Fetch.lean ====
section
/-! DEFINITION. Fetching (R12, R104), the instruction a call runs, the instruction boundary (R105), and what
`State.withFetchWord` is made of. -/

namespace Sys2Proof.Machine

/-! ### The fetches -/

/-- `FetchByte()`, without its value (R12): the memory device is read at PC. -/
def State.fetchByte (s : State) : State :=
  { s.afterRead s.pc with pc := s.pc + 1, instrBytes := s.instrBytes ++ [s.read s.pc] }

/-- `n` times `FetchByte()`. -/
def State.fetchBytes : Nat → State → State
  | 0, s => s
  | n + 1, s => State.fetchBytes n s.fetchByte

/-- The byte that the fetch after `k` fetches returns. -/
def State.byteAt (s : State) (k : Nat) : Byte := (State.fetchBytes k s).read (s.pc + BitVec.ofNat 16 k)

/-- What a call that fetches runs, and how many bytes it fetches (R101 to R103). All of them are fetched before any data
access of the instruction (R543), so the bytes that the next fetches return decide. `State.byteAt` calls no device: only
the fetches of `State.fetched` do, and `decodeCall` does not depend on a byte beyond the number it answers. -/
def State.nextCall (s : State) : Instr × Nat :=
  decodeCall s.cfg s.dec (s.byteAt 0) (s.byteAt 1) (s.byteAt 2)

/-- The instruction (or prefix) that this call runs if it services no signal. -/
def State.currentInstr (s : State) : Instr := s.nextCall.1

/-- `instrStart <- PC` at the first byte of an instruction (R104). -/
def State.markStart (s : State) : State := if s.dec = .idle then { s with instrStart := s.pc } else s

/-- `FetchOpcode()`, without its value (R104). -/
def State.fetchOpcode (s : State) : State := (s.markStart.fetchByte.refresh).tick 4

/-- `opcode <- b` (R103, R105). -/
def State.dispatching (s : State) (b : Byte) : State := { s with opcode := b }

/-- The decoder state to which the byte at PC leads, if it is a prefix byte in the present one (R102). -/
def State.prefixAhead (s : State) : Option DecoderState := prefixState s.dec (s.byteAt 0)

/-- A terminal `FetchOpcode()` and the operand bytes after it (R105, R107). -/
def State.fetchTerminal (s : State) : State :=
  State.fetchBytes (s.nextCall.2 - 1) (s.fetchOpcode.dispatching (s.byteAt 0))

/-- The state in which this call's instruction runs: every byte of the call fetched. In IndexBitPending the displacement
and the opcode byte are both plain byte fetches (R103). -/
def State.fetched (s : State) : State :=
  match s.dec with
  | .indexBitPending _ => (State.fetchBytes 2 s).dispatching (s.byteAt 1)
  | .idle => if s.prefixAhead.isSome then s.fetchOpcode else s.fetchTerminal
  | .indexPending _ => if s.prefixAhead.isSome then s.fetchOpcode else s.fetchTerminal
  | .bitPending => s.fetchTerminal
  | .extendedPending => s.fetchTerminal

/-! ### The instruction boundary -/

/-- The bookkeeping after an instruction (R105): Idle again, the byte buffer emptied, interrupts unblocked unless the
instruction was EI under `EI_DELAY`, and `prevPC <- instrStart`. -/
def State.boundary (s : State) (wasEi : Bool) : State :=
  { s with dec := .idle, instrBytes := [], intBlocked := wasEi && s.cfg.eiDelay, prevPC := s.instrStart }

/-- How the call that started in `s` and whose instruction answered `t` ends: at a boundary, or, after a prefix byte,
in the middle of an instruction (R102, R105). -/
def State.endCall (s t : State) : State :=
  if s.prefixAhead.isSome then t else t.boundary s.currentInstr.isEi

/-! ### Placing an instruction (log entries 5 and 6) -/

/-- The RAM with `bs` placed at `a` and on, from outside the machine: no device call of the core. -/
def Memory.place (m : Memory) (a : Word) : List Byte → Memory
  | [] => m
  | b :: bs => Memory.place (Memory.write m a.toNat b) (a + 1) bs

/-- `s` with the default RAM as its memory device, `bs` placed in it at PC. -/
def State.storeBytes (s : State) (bs : List Byte) : State :=
  { s with mem := Memory.place s.mem s.pc bs, cfg := { s.cfg with memDevice := .ram } }

/-- A state whose next call fetches: at an instruction boundary, the signals cleared if one would be serviced. -/
def State.quiet (s : State) : State :=
  let s1 := if s.dec = .idle then s else { s with dec := .idle, instrBytes := [] }
  if s1.serviceInOrder.isSome then { s1 with resetSig := false, halted := false, nmi := false, int := false } else s1

/-- The extended subset enabled, if the bytes are another instruction without it (R440). -/
def State.gateOpen (s : State) (bs : List Byte) : State :=
  if decodeRow s.cfg .idle bs = decodeRow Config.allRows .idle bs then s
  else { s with cfg := { s.cfg with extOpsEnabled := true, extSet := z80nCodes } }

/-- The call that consumes a prefix byte (R102). -/
def State.prefixCall (s : State) (next : DecoderState) : State := s.fetchOpcode.enterPrefix next

/-- The calls that consume the prefix bytes of `bs`, which stand at PC. The last byte of `bs` is left to fetch, so that a
prefix byte alone is run by the next call. -/
def State.runPrefixes (s : State) : List Byte → State
  | [] => s
  | [_] => s
  | b :: b' :: bs =>
    match prefixState s.dec b with
    | some next => State.runPrefixes (s.prefixCall next) (b' :: bs)
    | none => s

/-- `s` with the bytes `bs`, and zeros after them up to four bytes, at PC, the prefix bytes among them consumed. -/
def State.placing (s : State) (bs : List Byte) : State :=
  (((s.quiet.gateOpen bs).storeBytes (bs ++ List.replicate (4 - bs.length) 0x00)).runPrefixes bs)

end Sys2Proof.Machine
end

