-- ==== Sys2Proof/Machine/Step.lean ====
section
/-! DEFINITION. One advance-one-cycle call (R101), and the placing of an opcode-table word before it. -/

namespace Sys2Proof.Machine

/-- One call (R101): an Idle call services the pending signal of R484, if there is one, and does nothing else; any other
call fetches, runs what it fetched, and ends at a boundary unless it consumed a prefix byte. -/
def step (s : State) : Host.Outcome State Fault Refusal :=
  match s.pendingService with
  | some service => .next (s.serve service)
  | none =>
    match exec s.currentInstr s.fetched with
    | .next t => .next (s.endCall t)
    | .fault f => .fault f
    | .refused r => .refused r

/-- `s` with an opcode-table word of `nbits` bits where `step` fetches next, so that the next step runs that instruction
(log entries 5 and 6): its bytes stand at PC, first byte first, zeros after them, and the calls for its prefix bytes are
done. -/
def State.withFetchWord (s : State) (nbits w : Nat) : State := s.placing (tableBytes nbits w)

end Sys2Proof.Machine
end

