-- ==== Sys2Proof/Machine/HostOps.lean ====
section
/-! DEFINITION. The host's operations of R515. Each runs between calls. -/

namespace Sys2Proof.Machine

/-- What a host operation asks. What the reads answer, and "get state snapshot", are functions of their own below. -/
inductive HostOp where
  | advanceOneCycle
  | reset
  | assertReset
  | releaseReset
  | forceExitHalt
  | blockInterruptsOnce
  | setTicks (n : Nat)
  | setInterruptMode (m : Nat)
  | setIffs (b : Bool)
  | readMemory (a : Word)
  | writeMemory (a : Word) (v : Byte)
  | readPort (port : Word)
  | writePort (port : Word) (v : Byte)
  | restoreSnapshot (saved : State)
  | raiseInt
  | clearInt
  | raiseNmi
  | clearNmi
  deriving DecidableEq, Repr

/-- The interrupt mode a number names: 0, 1 or 2 (R32). -/
def intModeOfNat (m : Nat) : Option IntMode :=
  match m with
  | 0 => some .m0
  | 1 => some .m1
  | 2 => some .m2
  | _ => none

/-- "set interrupt mode": a mode of 3 or more is refused (R515; D14). -/
def State.hostSetIm (s : State) (m : Nat) : Out :=
  match intModeOfNat m with
  | some im => .next (s.setIm im)
  | none => .refused .interruptModeOutOfRange

/-- The core fields of `saved` and the devices of `s`: a snapshot restores the core's state (10_state.md); memory and
ports belong to the devices (R38, R66; log entry 13). -/
def State.withCoreOf (s saved : State) : State :=
  { saved with mem := s.mem, deviceCalls := s.deviceCalls, portDraws := s.portDraws }

/-- "restore state snapshot": one of another configuration is not modelled by the spec (R515). DESIGN CHOICE (log entry 13,
unsafe): 93_implementation_defined I14 refuses a malformed snapshot too, and the spec defines no format that would say
which one is; here none is, and every state of the same configuration is accepted, also one that no run produces. -/
def State.hostRestore (s saved : State) : Out :=
  if saved.cfg = s.cfg then .next (s.withCoreOf saved) else .refused .snapshotOfAnotherConfiguration

/-- "get state snapshot": the state itself; of it `State.hostRestore` uses the core fields. -/
def State.snapshot (s : State) : State := s

/-- What "read raw memory" answers (R67, R515); the device is called by `HostOp.readMemory`. -/
def State.rawRead (s : State) (a : Word) : Byte := s.read a

/-- The state a host operation leaves, or the refusal of the request (R515). -/
def hostOp (op : HostOp) (s : State) : Out :=
  match op with
  | .advanceOneCycle => step s
  | .reset => .next s.resetSequence
  | .assertReset => .next { s with resetSig := true }
  | .releaseReset => .next { s with resetSig := false }
  | .forceExitHalt => .next s.leaveHalt
  | .blockInterruptsOnce => .next { s with intBlocked := true }
  | .setTicks n => .next { s with ticks := n }
  | .setInterruptMode m => s.hostSetIm m
  | .setIffs b => .next (s.setIffs b)
  | .readMemory a => .next (s.afterRead a)
  | .writeMemory a v => .next (s.write a v)
  | .readPort port => .next (s.portRead port)
  | .writePort port v => .next (s.portWrite port v)
  | .restoreSnapshot saved => s.hostRestore saved
  | .raiseInt => .next { s with int := true }
  | .clearInt => .next { s with int := false }
  | .raiseNmi => .next { s with nmi := true }
  | .clearNmi => .next { s with nmi := false }

end Sys2Proof.Machine
end

