-- ==== Sys2Proof/Safety.lean ====
section
/-! DEFINITION. The terms that claims about this machine are stated in: the end of a run, the invariant every step keeps,
what a store may change, whole instructions as a run of calls, and the operand forms of the large families. -/

namespace Sys2Proof

/-! ### Kinds of instruction -/

/-- The instruction is a row of the table that only consumes a prefix byte (R102). -/
def Instr.isPrefixRow : Instr → Bool
  | .prefixCB => true
  | .prefixDD => true
  | .prefixED => true
  | .prefixFD => true
  | .prefixCBX _ => true
  | .prefixAfterX _ _ => true
  | _ => false

/-- The instructions that reach the port space (R61). -/
def Instr.usesPorts : Instr → Bool
  | .inAN _ => true
  | .inANX _ _ => true
  | .inRC _ => true
  | .inFC => true
  | .ini => true
  | .inir => true
  | .ind => true
  | .indr => true
  | .outNA _ => true
  | .outNAX _ _ => true
  | .outCR _ => true
  | .outC0 => true
  | .outi => true
  | .otir => true
  | .outd => true
  | .otdr => true
  | .outinb => true
  | .jpC => true
  | _ => false

/-- The instructions that reach the extended-register device (R499). -/
def Instr.usesExtRegs : Instr → Bool
  | .nextregN _ _ => true
  | .nextregA _ => true
  | _ => false

end Sys2Proof

namespace Sys2Proof.Machine

/-! ### Runs -/

/-- The run has ended (R548): HALTED with the decoder Idle. -/
def State.runEnded (s : State) : Bool := s.halted && s.dec = .idle

/-- `k` calls in a row. -/
def State.calls (s : State) (k : Nat) : Out := Sys2Proof.core.run k s

/-! ### The invariant -/

/-- The decoder state that a run of prefix bytes leads to (R102); none if one of them is no prefix byte there. -/
def prefixesFrom : DecoderState → List Byte → Option DecoderState
  | st, [] => some st
  | st, b :: bs =>
    match prefixState st b with
    | some st' => prefixesFrom st' bs
    | none => none

/-- The byte of the latest write to `a` in a record of device calls, newest first. -/
def latestWrite : List DeviceCall → Word → Option Byte
  | [], _ => none
  | .memRead _ _ :: cs, a => latestWrite cs a
  | .memWrite b v :: cs, a => if b = a then some v else latestWrite cs a
  | .portRead _ _ :: cs, a => latestWrite cs a
  | .portWrite _ _ :: cs, a => latestWrite cs a
  | .extSelect _ :: cs, a => latestWrite cs a
  | .extSetValue _ :: cs, a => latestWrite cs a

/-- Every read in a record of device calls answered the latest write to its address, if there was one (R70). -/
def readsLatestWrites : List DeviceCall → Prop
  | [] => True
  | .memRead a v :: cs => (∀ w, latestWrite cs a = some w → v = w) ∧ readsLatestWrites cs
  | .memWrite _ _ :: cs => readsLatestWrites cs
  | .portRead _ _ :: cs => readsLatestWrites cs
  | .portWrite _ _ :: cs => readsLatestWrites cs
  | .extSelect _ :: cs => readsLatestWrites cs
  | .extSetValue _ :: cs => readsLatestWrites cs

/-- Memory behaves as the default RAM of R66 and R70: every recorded read answered the latest write to its address, and
the next read will. -/
def State.ramConsistent (s : State) : Prop :=
  readsLatestWrites s.deviceCalls ∧ ∀ a v, latestWrite s.deviceCalls a = some v → s.read a = v

/-- What every step keeps: memory is in its canonical form; the bytes fetched so far of the instruction in flight are the
prefix bytes that lead to the decoder's state, so there are none at an instruction boundary (R34, R36; that the buffer
holds the whole of a long prefix chain is log entry 10, DESIGN CHOICE); in the middle of an instruction interrupts are
blocked, the core is not halted (R102, R484), and PC is the address after those bytes (R26, R104); and the default RAM
answers every read with the latest write (R66, R70). -/
abbrev State.Inv (s : State) : Prop :=
  s.mem.wf = true ∧
  prefixesFrom .idle s.instrBytes = some s.dec ∧
  (s.dec ≠ .idle →
    s.intBlocked = true ∧ s.halted = false ∧ s.pc = s.instrStart + BitVec.ofNat 16 s.instrBytes.length) ∧
  (s.cfg.memDevice = .ram → s.ramConsistent)

/-! ### What a store changes -/

/-- From `s` to `t` the default RAM changed at `a` only, which holds `v`. An external memory device is known by its calls
alone, so there no RAM changes. -/
def State.storesByte (s t : State) (a : Word) (v : Byte) : Prop :=
  match s.cfg.memDevice with
  | .ram => t.read a = v ∧ ∀ b : Word, b ≠ a → t.read b = s.read b
  | .external _ => t.mem = s.mem

/-- From `s` to `t` the default RAM changed at `a` and `a + 1` only, which hold the low and the high byte of `v` (R62,
R63). -/
def State.storesWord (s t : State) (a v : Word) : Prop :=
  match s.cfg.memDevice with
  | .ram => t.read a = loByte v ∧ t.read (a + 1) = hiByte v ∧ ∀ b : Word, b ≠ a → b ≠ a + 1 → t.read b = s.read b
  | .external _ => t.mem = s.mem

/-- The device calls of `MemRead16(a)` in `s` (R12): the low byte is read first. -/
def State.wordReads (s : State) (a : Word) : List DeviceCall :=
  [.memRead (a + 1) ((s.afterRead a).read (a + 1)), .memRead a (s.read a)]

/-- The value of `MemRead16(a)` in `s`, as a number (R12, R62). -/
def State.wordAt (s : State) (a : Word) : Nat := (s.read a).toNat + 256 * ((s.afterRead a).read (a + 1)).toNat

/-- The device calls of `MemWrite16(a, v)` (R12): the low byte is written first. -/
def wordWrites (a v : Word) : List DeviceCall := [.memWrite (a + 1) (hiByte v), .memWrite a (loByte v)]

/-- The device calls of `Push16(v)` with SP = `sp` (R12): the high byte is written first. -/
def pushWrites (sp v : Word) : List DeviceCall := [.memWrite (sp - 2) (loByte v), .memWrite (sp - 1) (hiByte v)]

/-- The device calls of fetching `bs` from `a` on, one read for each byte (R12, R73), newest first, on top of `before`. -/
def fetchReads (a : Word) : List Byte → List DeviceCall → List DeviceCall
  | [], before => before
  | b :: bs, before => fetchReads (a + 1) bs (.memRead a b :: before)

/-! ### Flags, bit by bit -/

/-- `szxy(v)` (R14) as four statements about a flag byte. -/
def flagsOf (f v : Byte) : Prop :=
  fS f = decide (128 ≤ v.toNat) ∧ fZ f = decide (v.toNat = 0) ∧ fY f = v.getLsbD 5 ∧ fX f = v.getLsbD 3

/-- The same for a 16-bit result: S, Y and X from bits 15, 13 and 11, Z over all 16 bits (R152, R153). -/
def flagsOf16 (f : Byte) (v : Word) : Prop :=
  fS f = decide (32768 ≤ v.toNat) ∧ fZ f = decide (v.toNat = 0) ∧ fY f = v.getLsbD 13 ∧ fX f = v.getLsbD 11

/-- An even number of 1 bits (R14). -/
def evenOnes (v : Byte) : Bool := ((List.range 8).filter v.getLsbD).length % 2 == 0

/-- The flags that `g` shares with `f`: S, Z, PV and C. -/
def keepsSZPC (f g : Byte) : Prop := fS g = fS f ∧ fZ g = fZ f ∧ fPV g = fPV f ∧ fC g = fC f

/-- The flags of INC8 and DEC8 (R141, R142) on the byte `v` with the flags `f` before: `dec` says which. -/
def stepFlagsTo (dec : Bool) (v f g : Byte) : Prop :=
  flagsOf g (if dec then v - 1 else v + 1) ∧
  fH g = decide (v.toNat % 16 = if dec then 0 else 15) ∧ fPV g = decide (v.toNat = if dec then 128 else 127) ∧
  fN g = dec ∧ fC g = fC f

/-- The flags of a bit test (46_rotate_shift_bit.md section 5): bit `b` of `v`, Y and X from `xy`. -/
def bitTestFlagsTo (b : BitVec 3) (v xy f g : Byte) : Prop :=
  fZ g = !v.getLsbD b.toNat ∧ fPV g = !v.getLsbD b.toNat ∧ fS g = (decide (b = 7) && v.getLsbD 7) ∧
  fY g = xy.getLsbD 5 ∧ fX g = xy.getLsbD 3 ∧ fH g = true ∧ fN g = false ∧ fC g = fC f

/-- `BIOFLAGS(value, k)` (R410), with `b` the B register after the decrement. -/
def blockIoFlagsTo (value b : Byte) (k : Nat) (g : Byte) : Prop :=
  fS g = b.getLsbD 7 ∧ fZ g = decide (b = 0) ∧ fY g = b.getLsbD 5 ∧ fX g = b.getLsbD 3 ∧ fH g = decide (255 < k) ∧
  fC g = decide (255 < k) ∧ fPV g = evenOnes (BitVec.ofNat 8 (k % 8) ^^^ b) ∧ fN g = value.getLsbD 7

/-- The flags of ADD16 (R151) on `a` and `b` with the result `w` and the flags `f` before. -/
def addWordFlagsTo (a b w : Word) (f g : Byte) : Prop :=
  fS g = fS f ∧ fZ g = fZ f ∧ fPV g = fPV f ∧ fY g = w.getLsbD 13 ∧ fX g = w.getLsbD 11 ∧
  fH g = decide (4095 < a.toNat % 4096 + b.toNat % 4096) ∧ fN g = false ∧ fC g = decide (65535 < a.toNat + b.toNat)

/-! ### Whole instructions -/

/-- How many calls a byte list that is one instruction takes: one for each prefix byte and one for the rest
(R101). -/
def callCount : DecoderState → List Byte → Nat
  | _, [] => 0
  | st, b :: bs =>
    match prefixState st b with
    | some st' => callCount st' bs + 1
    | none => 1

/-- How many of its bytes are fetched as opcodes, each with a refresh update and 4 ticks; in IndexBitPending none is
(R103, R104). -/
def opcodeFetches : DecoderState → List Byte → Nat
  | _, [] => 0
  | st, b :: bs =>
    match prefixState st b with
    | some st' => opcodeFetches st' bs + 1
    | none =>
      match st with
      | .idle => 1
      | .indexPending _ => 1
      | .bitPending => 1
      | .extendedPending => 1
      | .indexBitPending _ => 0

/-- The opcode byte of a byte list that is one instruction: the first byte that is no prefix, or, in IndexBitPending,
the second (R103, R105). -/
def opcodeByte : DecoderState → List Byte → Byte
  | _, [] => 0
  | st, b :: bs =>
    match prefixState st b with
    | some st' => opcodeByte st' bs
    | none =>
      match st with
      | .idle => b
      | .indexPending _ => b
      | .bitPending => b
      | .extendedPending => b
      | .indexBitPending _ => bs.headD 0

/-- The decoder state that the prefix bytes at the head of a byte list lead to (R102). -/
def terminalState : DecoderState → List Byte → DecoderState
  | st, [] => st
  | st, b :: bs =>
    match prefixState st b with
    | some st' => terminalState st' bs
    | none => st

/-- The refresh update in arithmetic: bit 7 kept, the low 7 bits counted mod 128 (R30). -/
def refreshedBy (n : Nat) (r : Byte) : Nat := r.toNat / 128 * 128 + (r.toNat % 128 + n) % 128

/-- The state in which the instruction `bs`, standing at PC of an Idle state, runs: all its bytes fetched, its prefix
bytes consumed (R101 to R105). -/
def State.wholeFetched (s : State) (bs : List Byte) : State :=
  { s with
    pc := s.pc + BitVec.ofNat 16 bs.length
    r := BitVec.ofNat 8 (refreshedBy (opcodeFetches .idle bs) s.r)
    ticks := s.ticks + 4 * opcodeFetches .idle bs
    instrStart := s.pc
    instrBytes := bs
    deviceCalls := fetchReads s.pc bs s.deviceCalls
    opcode := opcodeByte .idle bs
    dec := terminalState .idle bs
    intBlocked := s.intBlocked || decide (terminalState .idle bs ≠ .idle) }

/-! ### Operand forms -/

/-- A form of an accumulator operation: the instruction, the operand it reads, the WZ it leaves, the ticks its meaning
adds to those of the opcode fetches, and the device calls of reading the operand (R260). -/
structure AccForm where
  instr : Instr
  operand : Byte
  wz : Word
  ticks : Nat
  reads : List DeviceCall
  deriving DecidableEq, Repr

/-- The instructions of the seven forms of R260: r, r after a prefix, XH or XL, n, n after a prefix, (HL), (X+d). -/
def accInstrs (k : AluKind) (x : Idx) (r : Reg8) (h : Half) (n d : Byte) : List Instr :=
  match k with
  | .add => [.addR r, .addRX x r, .addXH x h, .addN n, .addNX x n, .addMHl, .addMXd x d]
  | .adc => [.adcR r, .adcRX x r, .adcXH x h, .adcN n, .adcNX x n, .adcMHl, .adcMXd x d]
  | .sub => [.subR r, .subRX x r, .subXH x h, .subN n, .subNX x n, .subMHl, .subMXd x d]
  | .sbc => [.sbcR r, .sbcRX x r, .sbcXH x h, .sbcN n, .sbcNX x n, .sbcMHl, .sbcMXd x d]
  | .and => [.andR r, .andRX x r, .andXH x h, .andN n, .andNX x n, .andMHl, .andMXd x d]
  | .xor => [.xorR r, .xorRX x r, .xorXH x h, .xorN n, .xorNX x n, .xorMHl, .xorMXd x d]
  | .or => [.orR r, .orRX x r, .orXH x h, .orN n, .orNX x n, .orMHl, .orMXd x d]
  | .cp => [.cpR r, .cpRX x r, .cpXH x h, .cpN n, .cpNX x n, .cpMHl, .cpMXd x d]

/-- The forms of the operation `k` in the state `s` (R260). Only (X+d) writes WZ. -/
def accForms (k : AluKind) (s : State) (x : Idx) (r : Reg8) (h : Half) (n d : Byte) : List AccForm :=
  List.zipWith (fun i (o : Byte × Word × Nat × List DeviceCall) => ⟨i, o.1, o.2.1, o.2.2.1, o.2.2.2⟩)
    (accInstrs k x r h n d)
    [(s.r8 r, s.wz, 0, []), (s.r8 r, s.wz, 0, []), (s.half x h, s.wz, 0, []), (n, s.wz, 3, []), (n, s.wz, 3, []),
     (s.read s.hl, s.wz, 3, [.memRead s.hl (s.read s.hl)]),
     (s.read (s.ea x d), s.ea x d, 11, [.memRead (s.ea x d) (s.read (s.ea x d))])]

/-- The rotate and shift instructions: on a register (R345 to R352). -/
def RotKind.onReg : RotKind → Reg8 → Instr
  | .rlc => .rlcR
  | .rrc => .rrcR
  | .rl => .rlR
  | .rr => .rrR
  | .sla => .slaR
  | .sra => .sraR
  | .sll => .sllR
  | .srl => .srlR

/-- On (HL). -/
def RotKind.onHl : RotKind → Instr
  | .rlc => .rlcMHl
  | .rrc => .rrcMHl
  | .rl => .rlMHl
  | .rr => .rrMHl
  | .sla => .slaMHl
  | .sra => .sraMHl
  | .sll => .sllMHl
  | .srl => .srlMHl

/-- On (X+d). -/
def RotKind.onXd : RotKind → Idx → Byte → Instr
  | .rlc => .rlcMXd
  | .rrc => .rrcMXd
  | .rl => .rlMXd
  | .rr => .rrMXd
  | .sla => .slaMXd
  | .sra => .sraMXd
  | .sll => .sllMXd
  | .srl => .srlMXd

/-- On (X+d) with the copy to a register. -/
def RotKind.onXdCopy : RotKind → Idx → Byte → Reg8 → Instr
  | .rlc => .rlcMXdR
  | .rrc => .rrcMXdR
  | .rl => .rlMXdR
  | .rr => .rrMXdR
  | .sla => .slaMXdR
  | .sra => .sraMXdR
  | .sll => .sllMXdR
  | .srl => .srlMXdR

/-- The table of R147 in arithmetic: the result and the bit shifted out, from the operand and the carry in. -/
def RotKind.table (k : RotKind) (v cin : Nat) : Nat × Bool :=
  match k with
  | .rlc => ((2 * v + v / 128) % 256, decide (128 ≤ v))
  | .rrc => (v / 2 + 128 * (v % 2), decide (v % 2 = 1))
  | .rl => ((2 * v + cin) % 256, decide (128 ≤ v))
  | .rr => (v / 2 + 128 * cin, decide (v % 2 = 1))
  | .sla => (2 * v % 256, decide (128 ≤ v))
  | .sra => (v / 2 + 128 * (v / 128), decide (v % 2 = 1))
  | .sll => ((2 * v + 1) % 256, decide (128 ≤ v))
  | .srl => (v / 2, decide (v % 2 = 1))

/-- `w` is the result and `f` the flag byte of the rotate or shift `k` of `v` with the flags `f0` before it: R147 with
`SHFLAGS` (R148). -/
def rotatesTo (k : RotKind) (v f0 w f : Byte) : Prop :=
  w.toNat = (k.table v.toNat (fC f0).toNat).1 ∧ flagsOf f w ∧ fPV f = evenOnes w ∧ fH f = false ∧ fN f = false ∧
    fC f = (k.table v.toNat (fC f0).toNat).2

end Sys2Proof.Machine
end

