-- ==== Sys2Proof/Certificates/Slice0/Obligations.lean ====
section
/-! DEFINITION. The statements about this machine, for the provers. `exec i s` is the meaning of `i` in the state `s` in
which all the bytes of the call are fetched, so `s.pc` is the address after the instruction and the ticks of its opcode
fetches are counted already. What a statement says of `deviceCalls` is what a device can observe (R64): the calls that the
instruction makes, newest first, and no others. `s.read a` is what the memory device, whichever it is, answers in `s`. -/

section

open Sys2Proof Sys2Proof.Machine

/-! ### Encoding -/

/-- Every well-formed instruction, with every operand at every value, decodes from its own encoding (R90, R97 to R99,
R107 to R111, R440). -/
def Obligations.DecodeOfEncodeIsIdentity : Prop :=
  ∀ (cfg : Config) (i : Instr), i.wf cfg = true → decodeBytes cfg (encode i) = .ok i

/-- Whatever bytes decode to, it is well formed, and its encoding is the end of those bytes; the bytes before it are index
prefix bytes, which a later prefix replaces or cancels (R102). -/
def Obligations.DecodedBytesEndInTheEncoding : Prop :=
  ∀ (cfg : Config) (bs : List Byte) (i : Instr),
    decodeBytes cfg bs = .ok i →
      i.wf cfg = true ∧ ∃ ps, bs = ps ++ encode i ∧ ∀ b ∈ ps, b = 0xDD ∨ b = 0xFD

/-- No byte is illegal in any decoder state (R99): each call runs a well-formed instruction of one to three fetched bytes,
a prefix row exactly when the byte is a prefix byte there (R102). No byte after the fetched ones matters (R64). -/
def Obligations.EveryByteDecodesInEveryState : Prop :=
  ∀ (cfg : Config) (st : DecoderState) (b0 b1 b2 c1 c2 : Byte),
    (decodeCall cfg st b0 b1 b2).1.wf cfg = true ∧
    1 ≤ (decodeCall cfg st b0 b1 b2).2 ∧ (decodeCall cfg st b0 b1 b2).2 ≤ 3 ∧
    (decodeCall cfg st b0 b1 b2).1.isPrefixRow = (prefixState st b0).isSome ∧
    ((decodeCall cfg st b0 b1 b2).2 = 1 → decodeCall cfg st b0 c1 c2 = decodeCall cfg st b0 b1 b2) ∧
    ((decodeCall cfg st b0 b1 b2).2 = 2 → decodeCall cfg st b0 b1 c2 = decodeCall cfg st b0 b1 b2)

/-- Words written out from the encodings of the rules decode to their instructions: a redundant prefix byte (R102), a
substitution (R97), a missing entry (R98) and the gated subset (R440, R456) among them. In the last two clauses, that the
first byte stands in bits 7 to 0 of the table's word is the model's choice (log entry 5, DESIGN CHOICE). -/
def Obligations.SpecEncodingsDecode : Prop :=
  decodeBytes .default [0x78] = .ok (.ldRR .a .b) ∧
  decodeBytes .default [0x3E, 0x5A] = .ok (.ldRN .a 0x5A) ∧
  decodeBytes .default [0x36, 0xAA] = .ok (.ldMHlN 0xAA) ∧
  decodeBytes .default [0xDD, 0x66, 0x01] = .ok (.ldRMXd .ix .h 0x01) ∧
  decodeBytes .default [0xDD, 0x36, 0x80, 0x77] = .ok (.ldMXdN .ix 0x80 0x77) ∧
  decodeBytes .default [0xFD, 0x22, 0x00, 0x90] = .ok (.ldMemX .iy 0x9000) ∧
  decodeBytes .default [0xED, 0x7B, 0x00, 0x60] = .ok (.ldRpMem .sp 0x6000) ∧
  decodeBytes .default [0xED, 0xB0] = .ok .ldir ∧
  decodeBytes .default [0x86] = .ok .addMHl ∧
  decodeBytes .default [0xDD, 0x84] = .ok (.addXH .ix .high) ∧
  decodeBytes .default [0xED, 0x7C] = .ok (.neg 7) ∧
  decodeBytes .default [0xED, 0x5E] = .ok (.im 3) ∧
  decodeBytes .default [0xDD, 0x76] = .ok (.haltX .ix) ∧
  decodeBytes .default [0xED, 0x52] = .ok (.sbcHlRp .de) ∧
  decodeBytes .default [0xCB, 0x16] = .ok .rlMHl ∧
  decodeBytes .default [0xDD, 0xCB, 0x02, 0x28] = .ok (.sraMXdR .ix 0x02 .b) ∧
  decodeBytes .default [0xCB, 0x7C] = .ok (.bitR 7 .h) ∧
  decodeBytes .default [0x20, 0x05] = .ok (.jrCc .nz 0x05) ∧
  decodeBytes .default [0xEA, 0x00, 0x90] = .ok (.jpCc .pe 0x9000) ∧
  decodeBytes .default [0xED, 0x55] = .ok (.retn 2) ∧
  decodeBytes .default [0xCF] = .ok (.rst 1) ∧
  decodeBytes .default [0xDB, 0xFE] = .ok (.inAN 0xFE) ∧
  decodeBytes .default [0xED, 0x61] = .ok (.outCR .h) ∧
  decodeBytes .default [0xDD, 0xFD, 0x21, 0x34, 0x12] = .ok (.ldXNn .iy 0x1234) ∧
  decodeBytes .default [0xED, 0x30] = .ok (.extNoop 0x30) ∧
  decodeBytes .allRows [0xED, 0x30] = .ok .mulDE ∧
  decodeBytes .allRows [0xED, 0x8A, 0x12, 0x34] = .ok (.pushNn 0x1234) ∧
  decodeTableWord 8 0x76 = some .halt ∧
  decodeTableWord 16 0x42ED = some (.sbcHlRp .bc)

/-! ### The whole machine -/

/-- No instruction stops, in any state (R480), and none changes the configuration (R39), a signal flag that only the host
and the services change (R482), or the trace fields (R36); the tick counter never falls (R37), the record
of device calls only grows (R64), and memory keeps its canonical form. -/
def Obligations.NoInstructionStops : Prop :=
  ∀ (i : Instr) (s : State), ∃ t, exec i s = .next t ∧
    t.cfg = s.cfg ∧ t.resetSig = s.resetSig ∧ t.nmi = s.nmi ∧ t.int = s.int ∧
    t.opcode = s.opcode ∧ t.instrBytes = s.instrBytes ∧ t.instrStart = s.instrStart ∧ t.prevPC = s.prevPC ∧
    s.ticks ≤ t.ticks ∧ (∃ calls, t.deviceCalls = calls ++ s.deviceCalls) ∧ (s.mem.wf = true → t.mem.wf = true)

/-- What writes the control registers: I only `LD I,A` (R28), R, after the fetches, only `LD R,A` (R29), IM only `IM m`
(R32), IFF1 only DI, EI, RETI and RETN and IFF2 only DI and EI (R31), HALTED only HALT (R33). -/
def Obligations.ControlRegistersHaveFewWriters : Prop :=
  ∀ (i : Instr) (s t : State), exec i s = .next t →
    (t.i ≠ s.i → i = .ldIA) ∧
    (t.r ≠ s.r → i = .ldRA) ∧
    (t.im ≠ s.im → ∃ y, i = .im y) ∧
    (t.iff1 ≠ s.iff1 →
      i = .di ∨ (∃ x, i = .diX x) ∨ i = .ei ∨ (∃ x, i = .eiX x) ∨ i = .reti ∨ ∃ y, i = .retn y) ∧
    (t.iff2 ≠ s.iff2 → i = .di ∨ (∃ x, i = .diX x) ∨ i = .ei ∨ ∃ x, i = .eiX x) ∧
    (t.halted ≠ s.halted → i = .halt ∨ ∃ x, i = .haltX x)

/-- The alternate bank is reached by the two swaps only (R23), the port device only by the instructions of 48_io.md and
`OUTINB` and `JP (C)` (R61), the extended-register device only by NEXTREG (R499). -/
def Obligations.AlternateBankAndDevicesAreReachedByFew : Prop :=
  ∀ (i : Instr) (s t : State), exec i s = .next t →
    (t.afAlt ≠ s.afAlt → i = .exAf ∨ ∃ x, i = .exAfX x) ∧
    (t.bcAlt ≠ s.bcAlt ∨ t.deAlt ≠ s.deAlt ∨ t.hlAlt ≠ s.hlAlt → i = .exx ∨ ∃ x, i = .exxX x) ∧
    (t.portTrace ≠ s.portTrace ∨ t.portDraws ≠ s.portDraws → i.usesPorts = true) ∧
    (t.extCalls ≠ s.extCalls → i.usesExtRegs = true)

/-! ### Steps -/

/-- A call that services no signal runs the instruction that the bytes at PC decode to in the decoder's state, on the
state with those bytes fetched, each by one read of the memory device, and ends with the boundary bookkeeping of R105
unless it consumed a prefix byte. The bytes are those that successive reads from PC on return, which for the default RAM
are the bytes it holds there. -/
def Obligations.StepRunsTheDecodedInstruction : Prop :=
  ∀ (s : State) (i : Instr) (n : Nat), s.pendingService = none →
    decodeCall s.cfg s.dec (s.byteAt 0) (s.byteAt 1) (s.byteAt 2) = (i, n) →
    (s.cfg.memDevice = .ram → ∀ k, s.byteAt k = s.read (s.pc + BitVec.ofNat 16 k)) ∧
    s.fetched.pc = s.pc + BitVec.ofNat 16 n ∧
    s.fetched.deviceCalls = fetchReads s.pc ([s.byteAt 0, s.byteAt 1, s.byteAt 2].take n) s.deviceCalls ∧
    ∃ t, exec i s.fetched = .next t ∧
      step s = .next (if i.isPrefixRow then t else
        { t with dec := .idle, instrBytes := [], intBlocked := i.isEi && t.cfg.eiDelay, prevPC := t.instrStart })

/-- From an Idle state that services no signal, the bytes of a whole instruction at PC, redundant prefix bytes among
them, take one call for each prefix byte and one for the rest, and the run is that of `exec` on the state with all its
bytes fetched, each by one read of the memory device, in order (R64, R101 to R107). -/
def Obligations.CallsRunTheWholeInstruction : Prop :=
  ∀ (s : State) (bs : List Byte) (i : Instr),
    s.dec = .idle → s.instrBytes = [] → s.pendingService = none →
    decodeBytes s.cfg bs = .ok i → i.isPrefixRow = false →
    (∀ (k : Nat) (h : k < bs.length), s.byteAt k = bs[k]) →
    ∃ t, exec i (s.wholeFetched bs) = .next t ∧
      s.calls (callCount .idle bs) =
        .next { t with dec := .idle, instrBytes := [], intBlocked := i.isEi && t.cfg.eiDelay, prevPC := t.instrStart }

/-- The invariant holds after construction with any devices, any configuration and any initial registers, so after reset
(R42, R532). -/
def Obligations.InvariantHoldsAtReset : Prop :=
  (∀ (cfg : Config) (g : InitialRegs), (State.construct cfg g).Inv) ∧ State.reset.Inv

/-- Every step keeps the invariant. Its clauses on the byte buffer and on PC in the middle of an instruction hold of a
buffer without a bound, which is the model's choice (log entry 10, DESIGN CHOICE; D34 leaves it open). Its last clause is
the default RAM's (R66, R70): every read in the record answered the latest write to its address. -/
def Obligations.StepKeepsInvariant : Prop :=
  ∀ s t : State, s.Inv → step s = .next t → t.Inv

/-- A call never stops, and no call changes the configuration (R39, R480). A host operation is refused exactly where R515
refuses: an interrupt mode of 3 or more, or a snapshot of another configuration. That every snapshot of the same
configuration is accepted, so that none is malformed, is the model's choice (log entry 13, DESIGN CHOICE; 93 I14). -/
def Obligations.CallsNeverStopAndHostRefusalsAreTwo : Prop :=
  (∀ s : State, ∃ t, step s = .next t ∧ t.cfg = s.cfg) ∧
  (∀ (op : HostOp) (s : State),
    (∃ t, hostOp op s = .next t ∧ t.cfg = s.cfg) ∨
    (hostOp op s = .refused .interruptModeOutOfRange ∧ ∃ m, op = .setInterruptMode m ∧ 3 ≤ m) ∨
    (hostOp op s = .refused .snapshotOfAnotherConfiguration ∧
      ∃ saved, op = .restoreSnapshot saved ∧ saved.cfg ≠ s.cfg)) ∧
  (∀ (m : Nat) (s : State), 3 ≤ m → hostOp (.setInterruptMode m) s = .refused .interruptModeOutOfRange) ∧
  ∀ saved s : State, saved.cfg ≠ s.cfg →
    hostOp (.restoreSnapshot saved) s = .refused .snapshotOfAnotherConfiguration

/-- Every host operation keeps the invariant, given a snapshot that meets it. The clauses of the invariant on the byte
buffer rest on the model's choice of a buffer without a bound (log entry 10, DESIGN CHOICE). A raw memory access of the
host calls the device (R67). -/
def Obligations.HostOperationsKeepInvariant : Prop :=
  ∀ (op : HostOp) (s t : State), s.Inv → (∀ saved, op = .restoreSnapshot saved → saved.Inv) →
    hostOp op s = .next t → t.Inv

/-! ### 41_load.md -/

/-- Register moves and immediate loads write the destination register and nothing else (R180, R181); F is no
destination. Where an index prefix substitutes, 4 and 5 name XH and XL, and H, L and the other index register keep. -/
def Obligations.RegisterLoadsWriteOneRegister : Prop :=
  ∀ (s : State) (x : Idx) (r r2 : Reg8) (h : Half) (n : Byte),
    (∀ i ∈ [Instr.ldRR r r2, Instr.ldRRX x r r2], ∃ t, exec i s = .next t ∧
      (∀ q, t.r8 q = if q = r then s.r8 r2 else s.r8 q) ∧ t.f = s.f ∧
      t = { s with af := t.af, bc := t.bc, de := t.de, hl := t.hl }) ∧
    (∃ t, exec (.ldRRXH x r r2) s = .next t ∧
      (∀ q, t.r8X x q = if q = r then s.r8X x r2 else s.r8X x q) ∧ t.f = s.f ∧ (∀ y, y ≠ x → t.idx y = s.idx y) ∧
      t = { s with af := t.af, bc := t.bc, de := t.de, ix := t.ix, iy := t.iy }) ∧
    (∀ i ∈ [Instr.ldRN r n, Instr.ldRNX x r n], ∃ t, exec i s = .next t ∧
      (∀ q, t.r8 q = if q = r then n else s.r8 q) ∧ t.f = s.f ∧
      t = { s with af := t.af, bc := t.bc, de := t.de, hl := t.hl, ticks := s.ticks + 3 }) ∧
    (∃ t, exec (.ldXHN x h n) s = .next t ∧
      (∀ k, t.half x k = if k = h then n else s.half x k) ∧ (∀ y, y ≠ x → t.idx y = s.idx y) ∧
      t = { s with ix := t.ix, iy := t.iy, ticks := s.ticks + 3 })

/-- Loads of a byte from memory write the destination register, and WZ where the rule says so (R182, R183, R188 to
R190). Each reads its address once and nothing else (R64). -/
def Obligations.ByteLoadsReadTheirAddress : Prop :=
  ∀ (s : State) (x : Idx) (r : Reg8) (d : Byte) (nn : Word),
    (∃ t, exec (.ldRMHl r) s = .next t ∧ (∀ q, t.r8 q = if q = r then s.read s.hl else s.r8 q) ∧ t.f = s.f ∧
      t = { s with af := t.af, bc := t.bc, de := t.de, hl := t.hl, ticks := s.ticks + 3,
                   deviceCalls := .memRead s.hl (s.read s.hl) :: s.deviceCalls }) ∧
    (∃ t, exec (.ldRMXd x r d) s = .next t ∧
      (∀ q, t.r8 q = if q = r then s.read (s.idx x + d.signExtend 16) else s.r8 q) ∧ t.f = s.f ∧
      t = { s with af := t.af, bc := t.bc, de := t.de, hl := t.hl, wz := s.idx x + d.signExtend 16,
                   ticks := s.ticks + 11,
                   deviceCalls := .memRead (s.idx x + d.signExtend 16) (s.read (s.idx x + d.signExtend 16)) :: s.deviceCalls }) ∧
    (∀ e ∈ [(Instr.ldABc, s.bc, 3), (.ldABcX x, s.bc, 3), (.ldADe, s.de, 3), (.ldADeX x, s.de, 3), (.ldAMem nn, nn, 9),
            (.ldAMemX x nn, nn, 9)], ∃ t, exec e.1 s = .next t ∧
      t.a = s.read e.2.1 ∧ t.f = s.f ∧
      t = { s with af := t.af, wz := e.2.1 + 1, ticks := s.ticks + e.2.2,
                   deviceCalls := .memRead e.2.1 (s.read e.2.1) :: s.deviceCalls })

/-- Stores of a byte write the one byte at their address, and WZ where the rule says so: the address under (X+d), and
the accumulator above the stepped low address byte for LD (BC),A and its like (R184 to R187, R191 to R193). -/
def Obligations.ByteStoresWriteOneByte : Prop :=
  ∀ (s : State) (x : Idx) (r : Reg8) (d n : Byte) (nn : Word), s.mem.wf = true →
    ∀ e ∈ [(Instr.ldMHlR r, s.hl, s.r8 r, s.wz, 3), (.ldMHlN n, s.hl, n, s.wz, 6),
           (.ldMXdR x r d, s.ea x d, s.r8 r, s.ea x d, 11), (.ldMXdN x d n, s.ea x d, n, s.ea x d, 11),
           (.ldBcA, s.bc, s.a, s.a ++ (s.c + 1), 3), (.ldBcAX x, s.bc, s.a, s.a ++ (s.c + 1), 3),
           (.ldDeA, s.de, s.a, s.a ++ (s.r8 .e + 1), 3), (.ldDeAX x, s.de, s.a, s.a ++ (s.r8 .e + 1), 3),
           (.ldMemA nn, nn, s.a, s.a ++ (loByte nn + 1), 9), (.ldMemAX x nn, nn, s.a, s.a ++ (loByte nn + 1), 9)],
      ∃ t, exec e.1 s = .next t ∧ s.storesByte t e.2.1 e.2.2.1 ∧
        t = { s with mem := t.mem, wz := e.2.2.2.1, ticks := s.ticks + e.2.2.2.2,
                     deviceCalls := .memWrite e.2.1 e.2.2.1 :: s.deviceCalls }

/-- 16-bit loads: immediates, the two bytes at an address, read low byte first and wrapping at 0xFFFF, and SP (R198 to R200,
R203). -/
def Obligations.WordLoadsWriteOnePair : Prop :=
  ∀ (s : State) (x : Idx) (p : Rp) (nn : Word),
    (∀ i ∈ [Instr.ldRpNn p nn, Instr.ldRpNnX x p nn], ∃ t, exec i s = .next t ∧
      (∀ q, t.rp q = if q = p then nn else s.rp q) ∧
      t = { s with bc := t.bc, de := t.de, hl := t.hl, sp := t.sp, ticks := s.ticks + 6 }) ∧
    (∃ t, exec (.ldXNn x nn) s = .next t ∧ (∀ y, t.idx y = if y = x then nn else s.idx y) ∧
      t = { s with ix := t.ix, iy := t.iy, ticks := s.ticks + 6 }) ∧
    (∃ t, exec (.ldHlMem nn) s = .next t ∧ t.hl.toNat = s.wordAt nn ∧
      t = { s with hl := t.hl, wz := nn + 1, ticks := s.ticks + 12,
                   deviceCalls := s.wordReads nn ++ s.deviceCalls }) ∧
    (∃ t, exec (.ldXMem x nn) s = .next t ∧
      (t.idx x).toNat = s.wordAt nn ∧ (∀ y, y ≠ x → t.idx y = s.idx y) ∧
      t = { s with ix := t.ix, iy := t.iy, wz := nn + 1, ticks := s.ticks + 12,
                   deviceCalls := s.wordReads nn ++ s.deviceCalls }) ∧
    (∃ t, exec (.ldRpMem p nn) s = .next t ∧
      (t.rp p).toNat = s.wordAt nn ∧ (∀ q, q ≠ p → t.rp q = s.rp q) ∧
      t = { s with bc := t.bc, de := t.de, hl := t.hl, sp := t.sp, wz := nn + 1, ticks := s.ticks + 12,
                   deviceCalls := s.wordReads nn ++ s.deviceCalls }) ∧
    exec .ldSpHl s = .next { s with sp := s.hl, ticks := s.ticks + 2 } ∧
    exec (.ldSpX x) s = .next { s with sp := s.idx x, ticks := s.ticks + 2 }

/-- 16-bit stores write the low byte at nn and the high byte at nn + 1, mod 2^16, and no other byte (R62, R63, R201,
R202). -/
def Obligations.WordStoresWriteTwoBytes : Prop :=
  ∀ (s : State) (x : Idx) (p : Rp) (nn : Word), s.mem.wf = true →
    ∀ e ∈ [(Instr.ldMemHl nn, s.hl), (.ldMemX x nn, s.idx x), (.ldMemRp p nn, s.rp p)],
      ∃ t, exec e.1 s = .next t ∧ s.storesWord t nn e.2 ∧
        t = { s with mem := t.mem, wz := nn + 1, ticks := s.ticks + 12,
                     deviceCalls := wordWrites nn e.2 ++ s.deviceCalls }

/-- PUSH writes the pair below SP, first the high byte at SP - 1 and then the low byte at SP - 2, all mod 2^16 (R12, R204, R456). -/
def Obligations.PushesWriteBelowTheStackPointer : Prop :=
  ∀ (s : State) (x : Idx) (q : Rp2) (nn : Word), s.mem.wf = true →
    ∀ e ∈ [(Instr.pushQ q, s.rp2 q, 7), (.pushQX x q, s.rp2 q, 7), (.pushX x, s.idx x, 7), (.pushNn nn, nn, 15)],
      ∃ t, exec e.1 s = .next t ∧ s.storesWord t (s.sp - 2) e.2.1 ∧
        t = { s with mem := t.mem, sp := s.sp - 2, ticks := s.ticks + e.2.2,
                     deviceCalls := pushWrites s.sp e.2.1 ++ s.deviceCalls }

/-- POP reads the word at SP, low byte first, and adds 2 to SP; POP AF writes all of F (R12, R205). With the
default RAM, what PUSH stored is what a POP right after it reads. -/
def Obligations.PopsReadTheStack : Prop :=
  ∀ (s : State) (x : Idx) (q q2 : Rp2),
    (∀ i ∈ [Instr.popQ q, Instr.popQX x q], ∃ t, exec i s = .next t ∧
      (t.rp2 q).toNat = s.wordAt s.sp ∧ (∀ k, k ≠ q → t.rp2 k = s.rp2 k) ∧
      t = { s with af := t.af, bc := t.bc, de := t.de, hl := t.hl, sp := s.sp + 2, ticks := s.ticks + 6,
                   deviceCalls := s.wordReads s.sp ++ s.deviceCalls }) ∧
    (∃ t, exec (.popX x) s = .next t ∧
      (t.idx x).toNat = s.wordAt s.sp ∧ (∀ y, y ≠ x → t.idx y = s.idx y) ∧
      t = { s with ix := t.ix, iy := t.iy, sp := s.sp + 2, ticks := s.ticks + 6,
                   deviceCalls := s.wordReads s.sp ++ s.deviceCalls }) ∧
    (s.cfg.memDevice = .ram → s.mem.wf = true → ∃ t u, exec (.pushQ q) s = .next t ∧ exec (.popQ q2) t = .next u ∧
      u.rp2 q2 = s.rp2 q ∧ u.sp = s.sp)

/-- LD A,I and LD A,R set S, Z, Y and X from the byte, PV from IFF2, and keep C; LD I,A and LD R,A copy A whole
(R194 to R197). -/
def Obligations.SpecialRegisterLoads : Prop :=
  ∀ s : State,
    (∀ e ∈ [(Instr.ldAI, s.i), (.ldAR, s.r)], ∃ t, exec e.1 s = .next t ∧
      t.a = e.2 ∧ flagsOf t.f e.2 ∧ fH t.f = false ∧ fPV t.f = s.iff2 ∧ fN t.f = false ∧ fC t.f = fC s.f ∧
      t = { s with af := t.af, ticks := s.ticks + 1 }) ∧
    exec .ldIA s = .next { s with i := s.a, ticks := s.ticks + 1 } ∧
    exec .ldRA s = .next { s with r := s.a, ticks := s.ticks + 1 }

/-! ### 42_exchange_block.md -/

/-- The exchanges swap whole pairs and change no other register (R230 to R233). An index prefix changes only
EX (SP),HL, which reads the word low byte first and then writes the other high byte first. -/
def Obligations.ExchangesSwapPairs : Prop :=
  ∀ (s : State) (x : Idx),
    (∀ i ∈ [Instr.exDeHl, Instr.exDeHlX x], exec i s = .next { s with de := s.hl, hl := s.de }) ∧
    (∀ i ∈ [Instr.exAf, Instr.exAfX x], exec i s = .next { s with af := s.afAlt, afAlt := s.af }) ∧
    (∀ i ∈ [Instr.exx, Instr.exxX x], exec i s = .next
      { s with bc := s.bcAlt, bcAlt := s.bc, de := s.deAlt, deAlt := s.de, hl := s.hlAlt, hlAlt := s.hl }) ∧
    (s.mem.wf = true →
      (∃ t, exec .exSpHl s = .next t ∧ s.storesWord t s.sp s.hl ∧
        t.hl.toNat = s.wordAt s.sp ∧
        t = { s with mem := t.mem, hl := t.hl, wz := t.hl, ticks := s.ticks + 15,
                     deviceCalls := .memWrite s.sp (loByte s.hl) :: .memWrite (s.sp + 1) (hiByte s.hl) ::
                       (s.wordReads s.sp ++ s.deviceCalls) }) ∧
      (∃ t, exec (.exSpX x) s = .next t ∧ s.storesWord t s.sp (s.idx x) ∧
        (t.idx x).toNat = s.wordAt s.sp ∧ (∀ y, y ≠ x → t.idx y = s.idx y) ∧
        t = { s with mem := t.mem, ix := t.ix, iy := t.iy, wz := t.idx x, ticks := s.ticks + 15,
                     deviceCalls := .memWrite s.sp (loByte (s.idx x)) :: .memWrite (s.sp + 1) (hiByte (s.idx x)) ::
                       (s.wordReads s.sp ++ s.deviceCalls) }))

/-- LDI and LDD copy the byte at HL to DE and step the pairs; LDIR and LDDR do so once a call, and while BC is not 0 they
move PC back to the ED byte and set WZ after it (R234 to R237). -/
def Obligations.BlockTransfersMoveOneByte : Prop :=
  ∀ s : State, s.mem.wf = true →
    ∀ e ∈ [(Instr.ldi, (1 : Word), false), (.ldd, -1, false), (.ldir, 1, true), (.lddr, -1, true)],
      ∃ t, exec e.1 s = .next t ∧ s.storesByte t s.de (s.read s.hl) ∧
        (fS t.f = fS s.f ∧ fZ t.f = fZ s.f ∧ fC t.f = fC s.f) ∧ fH t.f = false ∧ fN t.f = false ∧
        fPV t.f = decide (s.bc ≠ 1) ∧
        fY t.f = (s.read s.hl + s.a).getLsbD 1 ∧ fX t.f = (s.read s.hl + s.a).getLsbD 3 ∧ t.a = s.a ∧
        t = { s with
          mem := t.mem, af := t.af, hl := s.hl + e.2.1, de := s.de + e.2.1, bc := s.bc - 1
          pc := if e.2.2 = true ∧ s.bc ≠ 1 then s.pc - 2 else s.pc
          wz := if e.2.2 = true ∧ s.bc ≠ 1 then s.pc - 1 else s.wz,
          deviceCalls := .memWrite s.de (s.read s.hl) :: .memRead s.hl (s.read s.hl) :: s.deviceCalls
          ticks := s.ticks + if e.2.2 = true ∧ s.bc ≠ 1 then 13 else 8 }

/-- CPI and CPD compare A with the byte at HL and step; CPIR and CPDR repeat while BC is not 0 and the byte differed
(R238 to R241). -/
def Obligations.BlockSearchesCompareOneByte : Prop :=
  ∀ s : State,
    ∀ e ∈ [(Instr.cpi, (1 : Word), false), (.cpd, -1, false), (.cpir, 1, true), (.cpdr, -1, true)],
      ∃ t, exec e.1 s = .next t ∧
        fZ t.f = decide (s.read s.hl = s.a) ∧ fS t.f = (s.a - s.read s.hl).getLsbD 7 ∧
        fH t.f = decide (s.a.toNat % 16 < (s.read s.hl).toNat % 16) ∧
        fPV t.f = decide (s.bc ≠ 1) ∧ fN t.f = true ∧ fC t.f = fC s.f ∧
        fY t.f = (s.a - s.read s.hl - (if fH t.f then 1 else 0)).getLsbD 1 ∧
        fX t.f = (s.a - s.read s.hl - (if fH t.f then 1 else 0)).getLsbD 3 ∧ t.a = s.a ∧
        t = { s with
          af := t.af, hl := s.hl + e.2.1, bc := s.bc - 1
          pc := if e.2.2 = true ∧ s.bc ≠ 1 ∧ s.read s.hl ≠ s.a then s.pc - 2 else s.pc
          wz := if e.2.2 = true ∧ s.bc ≠ 1 ∧ s.read s.hl ≠ s.a then s.pc - 1 else s.wz + e.2.1,
          deviceCalls := .memRead s.hl (s.read s.hl) :: s.deviceCalls
          ticks := s.ticks + if e.2.2 = true ∧ s.bc ≠ 1 ∧ s.read s.hl ≠ s.a then 13 else 8 }

/-- The Z80N block transfers skip a byte equal to A; DE steps upward in all of them, WZ and F stay (but for LDWS, which
has the flags of INC D), and the repeating ones move PC back while BC is not 0 (R464 to R469). -/
def Obligations.TransparentTransfersSkipTheAccumulator : Prop :=
  ∀ s : State, s.mem.wf = true →
    (∀ e ∈ [(Instr.ldix, s.hl, (1 : Word), false), (.lddx, s.hl, -1, false), (.ldirx, s.hl, 1, true),
            (.lddrx, s.hl, -1, true), (.ldpirx, (s.hl &&& 0xFFF8) + BitVec.ofNat 16 (s.de.toNat % 8), 0, true)],
      ∃ t, exec e.1 s = .next t ∧
        (if s.read e.2.1 = s.a then t.mem = s.mem else s.storesByte t s.de (s.read e.2.1)) ∧
        t = { s with
          mem := t.mem, hl := s.hl + e.2.2.1, de := s.de + 1, bc := s.bc - 1
          pc := if e.2.2.2 = true ∧ s.bc ≠ 1 then s.pc - 2 else s.pc,
          deviceCalls := (if s.read e.2.1 = s.a then [] else [.memWrite s.de (s.read e.2.1)]) ++
            .memRead e.2.1 (s.read e.2.1) :: s.deviceCalls
          ticks := s.ticks + if e.2.2.2 = true ∧ s.bc ≠ 1 then 13 else 8 }) ∧
    (∃ t, exec .ldws s = .next t ∧ s.storesByte t s.de (s.read s.hl) ∧
      t.hl = hiByte s.hl ++ (loByte s.hl + 1) ∧ t.de = (hiByte s.de + 1) ++ loByte s.de ∧ t.a = s.a ∧
      flagsOf t.f (hiByte s.de + 1) ∧ fH t.f = decide ((hiByte s.de).toNat % 16 = 15) ∧
      fPV t.f = decide ((hiByte s.de).toNat = 127) ∧ fN t.f = false ∧ fC t.f = fC s.f ∧
      t = { s with mem := t.mem, af := t.af, hl := t.hl, de := t.de, ticks := s.ticks + 6,
                   deviceCalls := .memWrite s.de (s.read s.hl) :: .memRead s.hl (s.read s.hl) :: s.deviceCalls })

/-! ### 43_arith8_logic.md -/

/-- ADD and ADC, in every operand form: A is the sum mod 256 and every flag is as R143 says; PV says that the sum of the
two's-complement values leaves the range -128 to 127 (R154, R260 to R262). -/
def Obligations.AdditionsSetTheAccumulator : Prop :=
  ∀ (s : State) (x : Idx) (r : Reg8) (h : Half) (n d : Byte),
    ∀ p ∈ [(AluKind.add, 0), (.adc, (fC s.f).toNat)], ∀ e ∈ accForms p.1 s x r h n d, ∃ t, exec e.instr s = .next t ∧
      t.a.toNat = (s.a.toNat + e.operand.toNat + p.2) % 256 ∧ flagsOf t.f t.a ∧
      fH t.f = decide (15 < s.a.toNat % 16 + e.operand.toNat % 16 + p.2) ∧
      fPV t.f = decide (s.a.toInt + e.operand.toInt + p.2 < -128 ∨ 127 < s.a.toInt + e.operand.toInt + p.2) ∧
      fN t.f = false ∧ fC t.f = decide (255 < s.a.toNat + e.operand.toNat + p.2) ∧
      t = { s with af := t.af, wz := e.wz, ticks := s.ticks + e.ticks, deviceCalls := e.reads ++ s.deviceCalls }

/-- SUB and SBC, in every operand form: A is the difference mod 256, H and C are the borrows, and PV is signed overflow
(R144, R154, R263, R264). -/
def Obligations.SubtractionsSetTheAccumulator : Prop :=
  ∀ (s : State) (x : Idx) (r : Reg8) (h : Half) (n d : Byte),
    ∀ p ∈ [(AluKind.sub, 0), (.sbc, (fC s.f).toNat)], ∀ e ∈ accForms p.1 s x r h n d, ∃ t, exec e.instr s = .next t ∧
      t.a.toNat = (512 + s.a.toNat - e.operand.toNat - p.2) % 256 ∧ flagsOf t.f t.a ∧
      fH t.f = decide (s.a.toNat % 16 < e.operand.toNat % 16 + p.2) ∧
      fPV t.f = decide (s.a.toInt - e.operand.toInt - p.2 < -128 ∨ 127 < s.a.toInt - e.operand.toInt - p.2) ∧
      fN t.f = true ∧ fC t.f = decide (s.a.toNat < e.operand.toNat + p.2) ∧
      t = { s with af := t.af, wz := e.wz, ticks := s.ticks + e.ticks, deviceCalls := e.reads ++ s.deviceCalls }

/-- CP, in every operand form: the flags of SUB but for Y and X, which come from the operand; A keeps its value (R145,
R268). -/
def Obligations.ComparesKeepTheAccumulator : Prop :=
  ∀ (s : State) (x : Idx) (r : Reg8) (h : Half) (n d : Byte),
    ∀ e ∈ accForms .cp s x r h n d, ∃ t, exec e.instr s = .next t ∧ t.a = s.a ∧
      fZ t.f = decide (s.a = e.operand) ∧ fC t.f = decide (s.a.toNat < e.operand.toNat) ∧
      fS t.f = (s.a - e.operand).getLsbD 7 ∧ fY t.f = e.operand.getLsbD 5 ∧ fX t.f = e.operand.getLsbD 3 ∧
      fH t.f = decide (s.a.toNat % 16 < e.operand.toNat % 16) ∧ fN t.f = true ∧
      fPV t.f = decide (s.a.toInt - e.operand.toInt < -128 ∨ 127 < s.a.toInt - e.operand.toInt) ∧
      t = { s with af := t.af, wz := e.wz, ticks := s.ticks + e.ticks, deviceCalls := e.reads ++ s.deviceCalls }

/-- AND, XOR and OR, in every operand form, and TEST n, which keeps A: S, Z, Y, X and PV = parity from the result, H set
by AND and TEST only, N and C cleared (R146, R265 to R267, R443). -/
def Obligations.LogicSetsTheAccumulator : Prop :=
  ∀ (s : State) (x : Idx) (r : Reg8) (h : Half) (n d : Byte),
    (∀ p ∈ [(AluKind.and, (fun (v : Byte) => s.a &&& v), true), (.xor, (fun v => s.a ^^^ v), false),
            (.or, (fun v => s.a ||| v), false)],
      ∀ e ∈ accForms p.1 s x r h n d, ∃ t, exec e.instr s = .next t ∧
        t.a = p.2.1 e.operand ∧ flagsOf t.f t.a ∧ fPV t.f = evenOnes t.a ∧ fH t.f = p.2.2 ∧ fN t.f = false ∧
        fC t.f = false ∧
        t = { s with af := t.af, wz := e.wz, ticks := s.ticks + e.ticks, deviceCalls := e.reads ++ s.deviceCalls }) ∧
    (∃ t, exec (.testN n) s = .next t ∧ t.a = s.a ∧ flagsOf t.f (s.a &&& n) ∧ fPV t.f = evenOnes (s.a &&& n) ∧
      fH t.f = true ∧ fN t.f = false ∧ fC t.f = false ∧ t = { s with af := t.af, ticks := s.ticks + 3 })

/-- INC and DEC step one register, half of an index register or byte of memory by one and leave C alone (R141, R142,
R269 to R272). -/
def Obligations.StepsOfBytes : Prop :=
  ∀ (s : State) (x : Idx) (r : Reg8) (h : Half) (d : Byte),
    (∀ e ∈ [(Instr.incR r, false), (.incRX x r, false), (.decR r, true), (.decRX x r, true)],
      ∃ t, exec e.1 s = .next t ∧
        (∀ q, t.r8 q = if q = r then (if e.2 then s.r8 r - 1 else s.r8 r + 1) else s.r8 q) ∧
        stepFlagsTo e.2 (s.r8 r) s.f t.f ∧ t = { s with af := t.af, bc := t.bc, de := t.de, hl := t.hl }) ∧
    (∀ e ∈ [(Instr.incXH x h, false), (.decXH x h, true)], ∃ t, exec e.1 s = .next t ∧
      (∀ k, t.half x k = if k = h then (if e.2 then s.half x h - 1 else s.half x h + 1) else s.half x k) ∧
      (∀ y, y ≠ x → t.idx y = s.idx y) ∧ t.a = s.a ∧
      stepFlagsTo e.2 (s.half x h) s.f t.f ∧ t = { s with af := t.af, ix := t.ix, iy := t.iy }) ∧
    (s.mem.wf = true →
      ∀ e ∈ [(Instr.incMHl, false, s.hl, s.wz, 7), (.decMHl, true, s.hl, s.wz, 7),
             (.incMXd x d, false, s.ea x d, s.ea x d, 15), (.decMXd x d, true, s.ea x d, s.ea x d, 15)],
        ∃ t, exec e.1 s = .next t ∧
          s.storesByte t e.2.2.1 (if e.2.1 then s.read e.2.2.1 - 1 else s.read e.2.2.1 + 1) ∧
          stepFlagsTo e.2.1 (s.read e.2.2.1) s.f t.f ∧ t.a = s.a ∧
          t = { s with
            mem := t.mem, af := t.af, wz := e.2.2.2.1, ticks := s.ticks + e.2.2.2.2,
            deviceCalls := .memWrite e.2.2.1 (if e.2.1 then s.read e.2.2.1 - 1 else s.read e.2.2.1 + 1) ::
              .memRead e.2.2.1 (s.read e.2.2.1) :: s.deviceCalls })

/-! ### 44_general_cpu_control.md -/

/-- DAA corrects A by 6 in the low digit, 96 in the high digit or both, away from N (R150, R290). -/
def Obligations.DecimalAdjustCorrects : Prop :=
  ∀ (s : State) (x : Idx), ∀ e ∈ [Instr.daa, .daaX x], ∃ t, exec e s = .next t ∧
    (∃ corr : Nat,
      corr = (if fH s.f = true ∨ 9 < s.a.toNat % 16 then 6 else 0) + (if fC s.f = true ∨ 153 < s.a.toNat then 96 else 0) ∧
      t.a.toNat = if fN s.f then (256 + s.a.toNat - corr) % 256 else (s.a.toNat + corr) % 256) ∧
    flagsOf t.f t.a ∧ fPV t.f = evenOnes t.a ∧ fN t.f = fN s.f ∧ fC t.f = (fC s.f || decide (153 < s.a.toNat)) ∧
    fH t.f = (if fN s.f then fH s.f && decide (s.a.toNat % 16 < 6) else decide (9 < s.a.toNat % 16)) ∧
    t = { s with af := t.af }

/-- DAA makes decimal arithmetic exact: after ADC or SBC of two bytes that hold two decimal digits each, DAA leaves the
two digits of the sum or difference in A and the decimal carry or borrow in C (R143, R144, R150). -/
def Obligations.DecimalArithmeticIsExact : Prop :=
  ∀ (s : State) (n : Byte), s.a.toNat / 16 < 10 → s.a.toNat % 16 < 10 → n.toNat / 16 < 10 → n.toNat % 16 < 10 →
    (∃ t u, exec (.adcN n) s = .next t ∧ exec .daa t = .next u ∧ u.a.toNat / 16 < 10 ∧ u.a.toNat % 16 < 10 ∧
      100 * (fC u.f).toNat + 10 * (u.a.toNat / 16) + u.a.toNat % 16 =
        10 * (s.a.toNat / 16) + s.a.toNat % 16 + 10 * (n.toNat / 16) + n.toNat % 16 + (fC s.f).toNat) ∧
    (∃ t u, exec (.sbcN n) s = .next t ∧ exec .daa t = .next u ∧ u.a.toNat / 16 < 10 ∧ u.a.toNat % 16 < 10 ∧
      10 * (u.a.toNat / 16) + u.a.toNat % 16 + 10 * (n.toNat / 16) + n.toNat % 16 + (fC s.f).toNat =
        100 * (fC u.f).toNat + 10 * (s.a.toNat / 16) + s.a.toNat % 16)

/-- CPL, NEG, CCF and SCF (R291 to R294): what each does to A and to every flag. -/
def Obligations.AccumulatorAndCarryOperations : Prop :=
  ∀ (s : State) (x : Idx) (y : BitVec 3),
    (∀ i ∈ [Instr.cpl, .cplX x], ∃ t, exec i s = .next t ∧ t.a.toNat = 255 - s.a.toNat ∧ keepsSZPC s.f t.f ∧
      fH t.f = true ∧ fN t.f = true ∧ fY t.f = !s.a.getLsbD 5 ∧ fX t.f = !s.a.getLsbD 3 ∧
      t = { s with af := t.af }) ∧
    (∃ t, exec (.neg y) s = .next t ∧ t.a = -s.a ∧ flagsOf t.f t.a ∧ fH t.f = decide (s.a.toNat % 16 ≠ 0) ∧
      fPV t.f = decide (s.a.toNat = 128) ∧ fN t.f = true ∧ fC t.f = decide (s.a.toNat ≠ 0) ∧
      t = { s with af := t.af }) ∧
    (∀ e ∈ [(Instr.ccf, fC s.f, !fC s.f), (.ccfX x, fC s.f, !fC s.f), (.scf, false, true), (.scfX x, false, true)],
      ∃ t, exec e.1 s = .next t ∧ t.a = s.a ∧ fS t.f = fS s.f ∧ fZ t.f = fZ s.f ∧ fPV t.f = fPV s.f ∧
        fY t.f = s.a.getLsbD 5 ∧ fX t.f = s.a.getLsbD 3 ∧ fH t.f = e.2.1 ∧ fN t.f = false ∧ fC t.f = e.2.2 ∧
        t = { s with af := t.af })

/-- NOP and the missing extended entries do nothing (R106, R295, R302); DI and EI write both flip-flops (R297, R298);
IM m sets the mode, for all eight of its opcodes (R299 to R301); HALT halts with PC back on its own opcode byte (R296). -/
def Obligations.CpuControlInstructions : Prop :=
  ∀ (s : State) (x : Idx) (op : Byte),
    (∀ i ∈ [Instr.nop, .nopX x, .extNoop op], exec i s = .next s) ∧
    (∀ i ∈ [Instr.di, .diX x], exec i s = .next { s with iff1 := false, iff2 := false }) ∧
    (∀ i ∈ [Instr.ei, .eiX x], exec i s = .next { s with iff1 := true, iff2 := true }) ∧
    (∀ y ∈ [(0 : BitVec 3), 1, 4, 5], exec (.im y) s = .next { s with im := .m0 }) ∧
    (∀ y ∈ [(2 : BitVec 3), 6], exec (.im y) s = .next { s with im := .m1 }) ∧
    (∀ y ∈ [(3 : BitVec 3), 7], exec (.im y) s = .next { s with im := .m2 }) ∧
    (∀ i ∈ [Instr.halt, .haltX x], exec i s = .next { s with halted := true, pc := s.pc - 1 })

/-- The missing entries of the extended table, as whole calls (R98, R106): both calls only fetch. PC passes both bytes,
R is advanced twice, 8 ticks are charged, and no other register, no flag and no byte of memory changes; the boundary is
that of R105. A code of 49_z80n_extended.md is missing where the subset or the code is not enabled (R440). That a code
which a configuration puts into EXT_SET and which no rule names stays missing is the model's reading (log entry 16,
DEDUCED). -/
def Obligations.MissingEntriesOnlyFetch : Prop :=
  ∀ s : State, s.dec = .idle → s.instrBytes = [] → s.pendingService = none → s.byteAt 0 = 0xED →
    ∀ op : Byte, s.byteAt 1 = op →
      (op.toNat < 64 ∨ op = 0x77 ∨ op = 0x7F ∨ 128 ≤ op.toNat ∧ op.toNat < 160 ∨
        160 ≤ op.toNat ∧ op.toNat < 192 ∧ 4 ≤ op.toNat % 8 ∨ 192 ≤ op.toNat) →
      (op ∈ z80nCodes → s.cfg.extOpsEnabled = false ∨ op ∉ s.cfg.extSet) →
      ∃ t, s.calls 2 = .next t ∧ t.r.toNat = refreshedBy 2 s.r ∧
        t = { s with pc := s.pc + 2, r := t.r, ticks := s.ticks + 8, intBlocked := false, opcode := op,
                     instrStart := s.pc, prevPC := s.pc, deviceCalls := fetchReads s.pc [0xED, op] s.deviceCalls }

/-! ### 45_arith16.md -/

/-- ADD HL,ss and ADD X,pp: the sum mod 2^16 with WZ one above the old destination; S, Z and PV stay (R151, R320). ADC
HL,ss and SBC HL,ss: the sum and the difference with the carry, every flag over all 16 bits, PV signed overflow
(R152, R153, R321, R322). -/
def Obligations.WordArithmetic : Prop :=
  ∀ (s : State) (x : Idx) (p : Rp),
    (∃ t, exec (.addHlRp p) s = .next t ∧ t.hl.toNat = (s.hl.toNat + (s.rp p).toNat) % 65536 ∧
      addWordFlagsTo s.hl (s.rp p) t.hl s.f t.f ∧ t.a = s.a ∧
      t = { s with af := t.af, hl := t.hl, wz := s.hl + 1, ticks := s.ticks + 7 }) ∧
    (∃ t, exec (.addXRp x p) s = .next t ∧
      (t.idx x).toNat = ((s.idx x).toNat + (if p = .hl then s.idx x else s.rp p).toNat) % 65536 ∧
      addWordFlagsTo (s.idx x) (if p = .hl then s.idx x else s.rp p) (t.idx x) s.f t.f ∧ t.a = s.a ∧
      (∀ y, y ≠ x → t.idx y = s.idx y) ∧
      t = { s with af := t.af, ix := t.ix, iy := t.iy, wz := s.idx x + 1, ticks := s.ticks + 7 }) ∧
    (∃ t, exec (.adcHlRp p) s = .next t ∧ t.hl.toNat = (s.hl.toNat + (s.rp p).toNat + (fC s.f).toNat) % 65536 ∧
      flagsOf16 t.f t.hl ∧ fH t.f = decide (4095 < s.hl.toNat % 4096 + (s.rp p).toNat % 4096 + (fC s.f).toNat) ∧
      fPV t.f = decide (s.hl.toInt + (s.rp p).toInt + (fC s.f).toNat < -32768 ∨ 32767 < s.hl.toInt + (s.rp p).toInt + (fC s.f).toNat) ∧
      fN t.f = false ∧ fC t.f = decide (65535 < s.hl.toNat + (s.rp p).toNat + (fC s.f).toNat) ∧ t.a = s.a ∧
      t = { s with af := t.af, hl := t.hl, wz := s.hl + 1, ticks := s.ticks + 7 }) ∧
    (∃ t, exec (.sbcHlRp p) s = .next t ∧ t.hl.toNat = (131072 + s.hl.toNat - (s.rp p).toNat - (fC s.f).toNat) % 65536 ∧
      flagsOf16 t.f t.hl ∧ fH t.f = decide (s.hl.toNat % 4096 < (s.rp p).toNat % 4096 + (fC s.f).toNat) ∧
      fPV t.f = decide (s.hl.toInt - (s.rp p).toInt - (fC s.f).toNat < -32768 ∨ 32767 < s.hl.toInt - (s.rp p).toInt - (fC s.f).toNat) ∧
      fN t.f = true ∧ fC t.f = decide (s.hl.toNat < (s.rp p).toNat + (fC s.f).toNat) ∧ t.a = s.a ∧
      t = { s with af := t.af, hl := t.hl, wz := s.hl + 1, ticks := s.ticks + 7 })

/-- INC ss, DEC ss, INC X and DEC X step one pair mod 2^16 and touch no flag (R323, R324). -/
def Obligations.StepsOfPairs : Prop :=
  ∀ (s : State) (x : Idx) (p : Rp),
    (∀ e ∈ [(Instr.incRp p, (1 : Word)), (.incRpX x p, 1), (.decRp p, -1), (.decRpX x p, -1)],
      ∃ t, exec e.1 s = .next t ∧ (∀ q, t.rp q = if q = p then s.rp p + e.2 else s.rp q) ∧
        t = { s with bc := t.bc, de := t.de, hl := t.hl, sp := t.sp, ticks := s.ticks + 2 }) ∧
    (∀ e ∈ [(Instr.incX x, (1 : Word)), (.decX x, -1)],
      ∃ t, exec e.1 s = .next t ∧ (∀ y, t.idx y = if y = x then s.idx x + e.2 else s.idx y) ∧
        t = { s with ix := t.ix, iy := t.iy, ticks := s.ticks + 2 })

/-! ### 46_rotate_shift_bit.md -/

/-- The eight rotates and shifts, in every form of R344: the result and the bit shifted out of R147, the flags of R148,
and, for (X+d) with a register, the copy of the result to it (R345 to R352). A memory form reads its byte and writes the
result back. -/
def Obligations.RotatesAndShifts : Prop :=
  ∀ (s : State) (k : RotKind) (x : Idx) (r : Reg8) (d : Byte),
    (∃ t, exec (k.onReg r) s = .next t ∧ rotatesTo k (s.r8 r) s.f (t.r8 r) t.f ∧ (∀ q, q ≠ r → t.r8 q = s.r8 q) ∧
      t = { s with af := t.af, bc := t.bc, de := t.de, hl := t.hl }) ∧
    (s.mem.wf = true →
      (∃ t w, exec (k.onHl) s = .next t ∧ rotatesTo k (s.read s.hl) s.f w t.f ∧ s.storesByte t s.hl w ∧ t.a = s.a ∧
        t = { s with mem := t.mem, af := t.af, ticks := s.ticks + 7,
                     deviceCalls := .memWrite s.hl w :: .memRead s.hl (s.read s.hl) :: s.deviceCalls }) ∧
      (∃ t w, exec (k.onXd x d) s = .next t ∧ rotatesTo k (s.read (s.ea x d)) s.f w t.f ∧
        s.storesByte t (s.ea x d) w ∧ t.a = s.a ∧
        t = { s with mem := t.mem, af := t.af, wz := s.ea x d, ticks := s.ticks + 15,
                     deviceCalls := .memWrite (s.ea x d) w :: .memRead (s.ea x d) (s.read (s.ea x d)) :: s.deviceCalls }) ∧
      (∃ t w, exec (k.onXdCopy x d r) s = .next t ∧ rotatesTo k (s.read (s.ea x d)) s.f w t.f ∧
        s.storesByte t (s.ea x d) w ∧ (∀ q, t.r8 q = if q = r then w else s.r8 q) ∧
        t = { s with mem := t.mem, af := t.af, bc := t.bc, de := t.de, hl := t.hl, wz := s.ea x d
                     ticks := s.ticks + 15,
                     deviceCalls := .memWrite (s.ea x d) w :: .memRead (s.ea x d) (s.read (s.ea x d)) :: s.deviceCalls }))

/-- RLCA, RLA, RRCA and RRA: the result and the bit shifted out of R147; S, Z and PV stay (R149, R340 to R343). -/
def Obligations.AccumulatorRotates : Prop :=
  ∀ (s : State) (x : Idx),
    ∀ e ∈ [(Instr.rlca, RotKind.rlc), (.rlcaX x, .rlc), (.rla, .rl), (.rlaX x, .rl), (.rrca, .rrc), (.rrcaX x, .rrc),
           (.rra, .rr), (.rraX x, .rr)],
      ∃ t, exec e.1 s = .next t ∧ t.a.toNat = (e.2.table s.a.toNat (fC s.f).toNat).1 ∧
        fC t.f = (e.2.table s.a.toNat (fC s.f).toNat).2 ∧ fS t.f = fS s.f ∧ fZ t.f = fZ s.f ∧ fPV t.f = fPV s.f ∧
        fY t.f = t.a.getLsbD 5 ∧ fX t.f = t.a.getLsbD 3 ∧ fH t.f = false ∧ fN t.f = false ∧ t = { s with af := t.af }

/-- BIT writes no register but F, and WZ under (X+d): Z and PV are the complement of the tested bit, and Y and X come from
the register tested, from the high byte of WZ, or from the high byte of the address (R27, R355 to R357). -/
def Obligations.BitTests : Prop :=
  ∀ (s : State) (x : Idx) (r : Reg8) (d : Byte) (b z : BitVec 3),
    ∀ e ∈ [(Instr.bitR b r, s.r8 r, s.r8 r, s.wz, 0, []),
           (.bitMHl b, s.read s.hl, hiByte s.wz, s.wz, 4, [DeviceCall.memRead s.hl (s.read s.hl)]),
           (.bitMXd x d b z, s.read (s.ea x d), hiByte (s.ea x d), s.ea x d, 12,
            [.memRead (s.ea x d) (s.read (s.ea x d))])],
      ∃ t, exec e.1 s = .next t ∧ bitTestFlagsTo b e.2.1 e.2.2.1 s.f t.f ∧ t.a = s.a ∧
        t = { s with af := t.af, wz := e.2.2.2.1, ticks := s.ticks + e.2.2.2.2.1, deviceCalls := e.2.2.2.2.2 ++ s.deviceCalls }

/-- SET and RES, in every form of R344, write one bit of the operand and no flag (R358, R359). -/
def Obligations.BitWrites : Prop :=
  ∀ (s : State) (x : Idx) (r : Reg8) (d : Byte) (b : BitVec 3),
    (∀ e ∈ [(Instr.setR b r, true), (.resR b r, false)], ∃ t, exec e.1 s = .next t ∧
      (∀ j < 8, (t.r8 r).getLsbD j = if j = b.toNat then e.2 else (s.r8 r).getLsbD j) ∧
      (∀ q, q ≠ r → t.r8 q = s.r8 q) ∧ t.f = s.f ∧ t = { s with af := t.af, bc := t.bc, de := t.de, hl := t.hl }) ∧
    (s.mem.wf = true →
      (∀ e ∈ [(Instr.setMHl b, true, s.hl, s.wz, 7), (.resMHl b, false, s.hl, s.wz, 7),
              (.setMXd x d b, true, s.ea x d, s.ea x d, 15), (.resMXd x d b, false, s.ea x d, s.ea x d, 15)],
        ∃ (t : State) (w : Byte), exec e.1 s = .next t ∧
          (∀ j < 8, w.getLsbD j = if j = b.toNat then e.2.1 else (s.read e.2.2.1).getLsbD j) ∧
          s.storesByte t e.2.2.1 w ∧
          t = { s with mem := t.mem, wz := e.2.2.2.1, ticks := s.ticks + e.2.2.2.2,
                       deviceCalls := .memWrite e.2.2.1 w :: .memRead e.2.2.1 (s.read e.2.2.1) :: s.deviceCalls }) ∧
      (∀ e ∈ [(Instr.setMXdR x d b r, true), (.resMXdR x d b r, false)], ∃ (t : State) (w : Byte),
        exec e.1 s = .next t ∧
        (∀ j < 8, w.getLsbD j = if j = b.toNat then e.2 else (s.read (s.ea x d)).getLsbD j) ∧
        s.storesByte t (s.ea x d) w ∧ (∀ q, t.r8 q = if q = r then w else s.r8 q) ∧ t.f = s.f ∧
        t = { s with mem := t.mem, af := t.af, bc := t.bc, de := t.de, hl := t.hl, wz := s.ea x d
                     ticks := s.ticks + 15,
                     deviceCalls := .memWrite (s.ea x d) w :: .memRead (s.ea x d) (s.read (s.ea x d)) :: s.deviceCalls }))

/-- RLD and RRD rotate the digits of A's low nibble and the byte at HL; the high nibble of A and C stay (R353, R354). -/
def Obligations.DigitRotates : Prop :=
  ∀ s : State, s.mem.wf = true →
    ∀ e ∈ [(Instr.rld, (s.read s.hl).toNat % 16 * 16 + s.a.toNat % 16, (s.read s.hl).toNat / 16),
           (.rrd, s.a.toNat % 16 * 16 + (s.read s.hl).toNat / 16, (s.read s.hl).toNat % 16)],
      ∃ t, exec e.1 s = .next t ∧ s.storesByte t s.hl (BitVec.ofNat 8 e.2.1) ∧
        t.a.toNat = s.a.toNat / 16 * 16 + e.2.2 ∧ flagsOf t.f t.a ∧ fPV t.f = evenOnes t.a ∧ fH t.f = false ∧
        fN t.f = false ∧ fC t.f = fC s.f ∧
        t = { s with mem := t.mem, af := t.af, wz := s.hl + 1, ticks := s.ticks + 10,
                     deviceCalls := .memWrite s.hl (BitVec.ofNat 8 e.2.1) :: .memRead s.hl (s.read s.hl) :: s.deviceCalls }

/-! ### 47_jump_call_return.md -/

/-- Jumps change PC, WZ where the rule says so, and B under DJNZ (R380 to R385, R393). The conditions are those of the
flags of R95. -/
def Obligations.JumpsSetTheProgramCounter : Prop :=
  ∀ (s : State) (x : Idx) (nn : Word) (d : Byte),
    (∀ e ∈ [(Instr.jp nn, 6), (.jpX x nn, 6)], exec e.1 s = .next { s with pc := nn, wz := nn, ticks := s.ticks + e.2 }) ∧
    (∀ e ∈ [(Instr.jr d, 8), (.jrX x d, 8)],
      exec e.1 s = .next { s with pc := s.pc + d.signExtend 16, wz := s.pc + d.signExtend 16, ticks := s.ticks + e.2 }) ∧
    exec .jpHl s = .next { s with pc := s.hl } ∧ exec (.jpIdx x) s = .next { s with pc := s.idx x } ∧
    (∀ c ∈ [(Cond.nz, !fZ s.f), (.z, fZ s.f), (.nc, !fC s.f), (.c, fC s.f), (.po, !fPV s.f), (.pe, fPV s.f),
            (.p, !fS s.f), (.m, fS s.f)],
      (∀ i ∈ [Instr.jpCc c.1 nn, .jpCcX x c.1 nn],
        exec i s = .next { s with pc := if c.2 then nn else s.pc, wz := nn, ticks := s.ticks + 6 }) ∧
      (∀ i ∈ [Instr.jrCc c.1 d, .jrCcX x c.1 d],
        exec i s = .next (if c.2
          then { s with pc := s.pc + d.signExtend 16, wz := s.pc + d.signExtend 16, ticks := s.ticks + 8 }
          else { s with ticks := s.ticks + 3 }))) ∧
    (∀ i ∈ [Instr.djnz d, .djnzX x d], ∃ t, exec i s = .next t ∧ t.b = s.b - 1 ∧ t.c = s.c ∧
      t = if s.b = 1 then { s with bc := t.bc, ticks := s.ticks + 4 }
          else { s with bc := t.bc, pc := s.pc + d.signExtend 16, wz := s.pc + d.signExtend 16, ticks := s.ticks + 9 })

/-- CALL and RST push the address of the next instruction, high byte at SP - 1 and low byte at SP - 2, and jump; CALL cc
does so if its condition holds and otherwise writes only WZ (R386, R387, R392). -/
def Obligations.CallsPushTheReturnAddress : Prop :=
  ∀ (s : State) (x : Idx) (nn : Word) (p : BitVec 3), s.mem.wf = true →
    (∀ e ∈ [(Instr.call nn, nn, 13), (.callX x nn, nn, 13), (.rst p, BitVec.ofNat 16 (8 * p.toNat), 7),
            (.rstX x p, BitVec.ofNat 16 (8 * p.toNat), 7)],
      ∃ t, exec e.1 s = .next t ∧ s.storesWord t (s.sp - 2) s.pc ∧
        t = { s with mem := t.mem, sp := s.sp - 2, pc := e.2.1, wz := e.2.1, ticks := s.ticks + e.2.2,
                     deviceCalls := pushWrites s.sp s.pc ++ s.deviceCalls }) ∧
    (∀ k : Cond, ∀ i ∈ [Instr.callCc k nn, .callCcX x k nn],
      (s.cond k = true → ∃ t, exec i s = .next t ∧ s.storesWord t (s.sp - 2) s.pc ∧
        t = { s with mem := t.mem, sp := s.sp - 2, pc := nn, wz := nn, ticks := s.ticks + 13,
                     deviceCalls := pushWrites s.sp s.pc ++ s.deviceCalls }) ∧
      (s.cond k = false → exec i s = .next { s with wz := nn, ticks := s.ticks + 6 }))

/-- Returns load PC and WZ from the word at SP and add 2 to SP; RETI and RETN also copy IFF2 to IFF1; RET cc with a false
condition changes nothing, WZ included (R388 to R391). That WZ stays there is the model's reading (log entry 8). -/
def Obligations.ReturnsPopTheProgramCounter : Prop :=
  ∀ (s : State) (x : Idx) (y : BitVec 3) (k : Cond),
    (∀ e ∈ [(Instr.ret, s.iff1, 6), (.retX x, s.iff1, 6), (.reti, s.iff2, 6), (.retn y, s.iff2, 6)],
      ∃ t, exec e.1 s = .next t ∧ t.pc.toNat = s.wordAt s.sp ∧
        t = { s with sp := s.sp + 2, pc := t.pc, wz := t.pc, iff1 := e.2.1, ticks := s.ticks + e.2.2,
                     deviceCalls := s.wordReads s.sp ++ s.deviceCalls }) ∧
    (∀ i ∈ [Instr.retCc k, .retCcX x k],
      (s.cond k = true → ∃ t, exec i s = .next t ∧
        t.pc.toNat = s.wordAt s.sp ∧
        t = { s with sp := s.sp + 2, pc := t.pc, wz := t.pc, ticks := s.ticks + 7,
                     deviceCalls := s.wordReads s.sp ++ s.deviceCalls }) ∧
      (s.cond k = false → exec i s = .next { s with ticks := s.ticks + 1 }))

/-- With the default RAM, a call of any kind and the return after it come back to the instruction after the call, with SP as before it
(R386 to R392), also where the stack wraps around address 0. A return right after an NMI comes back to where it was
taken with IFF1 as it was (R491, R391). -/
def Obligations.ReturnsUndoEntries : Prop :=
  ∀ (s : State) (x x2 : Idx) (nn : Word) (p y : BitVec 3), s.cfg.memDevice = .ram → s.mem.wf = true →
    ∀ j ∈ [Instr.ret, .retX x2, .reti, .retn y],
      (∀ i ∈ [Instr.call nn, .callX x nn, .rst p, .rstX x p], ∃ t u, exec i s = .next t ∧ exec j t = .next u ∧
        u.pc = s.pc ∧ u.sp = s.sp ∧ ∀ q, u.r8 q = s.r8 q) ∧
      (s.pendingService = some .acceptNmi → ∃ t u, step s = .next t ∧ exec j t = .next u ∧
        u.pc = (if s.halted then s.pc + 1 else s.pc) ∧ u.sp = s.sp ∧
        (j = .reti ∨ j = .retn y → u.iff1 = s.iff1))

/-! ### 48_io.md -/

/-- IN reads one byte `v` from the port, whatever the device answers, and records the access: IN A,(n) at the port {A, n}
without flags, IN r,(C) and IN F,(C) at the port BC with the flags of `v` (R66, R411 to R413). That IN r,(C) makes WZ from
the BC that addressed the port is the model's reading (log entry 7). -/
def Obligations.PortInputs : Prop :=
  ∀ (s : State) (x : Idx) (r : Reg8) (n : Byte),
    (∀ i ∈ [Instr.inAN n, .inANX x n], ∃ t, exec i s = .next t ∧ t.a = s.portIn (s.a ++ n) ∧ t.f = s.f ∧
      t = { s with af := t.af, wz := s.a ++ n + 1, portDraws := s.portDraws + 1, ticks := s.ticks + 7,
                   deviceCalls := .portRead (s.a ++ n) (s.portIn (s.a ++ n)) :: s.deviceCalls }) ∧
    (∀ e ∈ [(Instr.inRC r, some r), (.inFC, none)], ∃ t, exec e.1 s = .next t ∧
      (∀ q, t.r8 q = if some q = e.2 then s.portIn s.bc else s.r8 q) ∧
      flagsOf t.f (s.portIn s.bc) ∧ fPV t.f = evenOnes (s.portIn s.bc) ∧ fH t.f = false ∧ fN t.f = false ∧
      fC t.f = fC s.f ∧
      t = { s with af := t.af, bc := t.bc, de := t.de, hl := t.hl, wz := s.bc + 1, portDraws := s.portDraws + 1
                   ticks := s.ticks + 4, deviceCalls := .portRead s.bc (s.portIn s.bc) :: s.deviceCalls })

/-- OUT writes one byte to the port and changes WZ only; the low byte of WZ wraps by itself after OUT (n),A (R418 to
R420). OUTINB writes the byte at HL and steps HL (R457). -/
def Obligations.PortOutputs : Prop :=
  ∀ (s : State) (x : Idx) (r : Reg8) (n : Byte),
    (∀ i ∈ [Instr.outNA n, .outNAX x n], exec i s = .next
      { s with wz := s.a ++ (n + 1), deviceCalls := .portWrite (s.a ++ n) s.a :: s.deviceCalls, ticks := s.ticks + 7 }) ∧
    (∀ e ∈ [(Instr.outCR r, s.r8 r), (.outC0, 0)], exec e.1 s = .next
      { s with wz := s.bc + 1, deviceCalls := .portWrite s.bc e.2 :: s.deviceCalls, ticks := s.ticks + 4 }) ∧
    exec .outinb s = .next
      { s with hl := s.hl + 1, ticks := s.ticks + 8,
               deviceCalls := .portWrite s.bc (s.read s.hl) :: .memRead s.hl (s.read s.hl) :: s.deviceCalls }

/-- INI, IND and their repeating forms store the byte of port BC at HL, with B before the decrement in the port address
(R414 to R417); OUTI, OUTD and theirs write the byte at HL to the port BC with B already decremented (R421 to R424). The
flags are those of R410, with C stepped or with L after its step; the repeating forms move PC back and set WZ while B is
not 0. -/
def Obligations.BlockPortTransfersMoveOneByte : Prop :=
  ∀ s : State,
    (s.mem.wf = true →
      ∀ e ∈ [(Instr.ini, (1 : Word), (1 : Byte), false), (.ind, -1, -1, false), (.inir, 1, 1, true),
             (.indr, -1, -1, true)],
        ∃ t, exec e.1 s = .next t ∧ s.storesByte t s.hl (s.portIn s.bc) ∧ t.a = s.a ∧
          blockIoFlagsTo (s.portIn s.bc) (s.b - 1) ((s.portIn s.bc).toNat + (s.c + e.2.2.1).toNat) t.f ∧
          t = { s with
            mem := t.mem, af := t.af, hl := s.hl + e.2.1, bc := (s.b - 1) ++ s.c
            pc := if e.2.2.2 = true ∧ s.b ≠ 1 then s.pc - 2 else s.pc
            wz := if e.2.2.2 = true ∧ s.b ≠ 1 then s.pc - 1 else s.bc + e.2.1,
            deviceCalls := .memWrite s.hl (s.portIn s.bc) :: .portRead s.bc (s.portIn s.bc) :: s.deviceCalls
            portDraws := s.portDraws + 1
            ticks := s.ticks + if e.2.2.2 = true ∧ s.b ≠ 1 then 13 else 8 }) ∧
    ∀ e ∈ [(Instr.outi, (1 : Word), false), (.outd, -1, false), (.otir, 1, true), (.otdr, -1, true)],
      ∃ t, exec e.1 s = .next t ∧ t.a = s.a ∧
        blockIoFlagsTo (s.read s.hl) (s.b - 1) ((s.read s.hl).toNat + (loByte (s.hl + e.2.1)).toNat) t.f ∧
        t = { s with
          af := t.af, hl := s.hl + e.2.1, bc := (s.b - 1) ++ s.c
          pc := if e.2.2 = true ∧ s.b ≠ 1 then s.pc - 2 else s.pc
          wz := if e.2.2 = true ∧ s.b ≠ 1 then s.pc - 1 else (s.b - 1) ++ s.c + e.2.1,
          deviceCalls := .portWrite ((s.b - 1) ++ s.c) (s.read s.hl) :: .memRead s.hl (s.read s.hl) :: s.deviceCalls
          ticks := s.ticks + if e.2.2 = true ∧ s.b ≠ 1 then 13 else 8 }

/-! ### 49_z80n_extended.md -/

/-- SWAPNIB, MIRROR A and SETAE write A and no flag (R441, R442, R462). -/
def Obligations.ExtendedAccumulatorOperations : Prop :=
  ∀ s : State,
    (∃ t, exec .swapnib s = .next t ∧ t.a.toNat = s.a.toNat % 16 * 16 + s.a.toNat / 16 ∧ t.f = s.f ∧
      t = { s with af := t.af }) ∧
    (∃ t, exec .mirrorA s = .next t ∧ (∀ j < 8, t.a.getLsbD j = s.a.getLsbD (7 - j)) ∧ t.f = s.f ∧
      t = { s with af := t.af }) ∧
    (∃ t, exec .setae s = .next t ∧ t.a.toNat = 128 / 2 ^ ((loByte s.de).toNat % 8) ∧ t.f = s.f ∧
      t = { s with af := t.af })

/-- The barrel shifts multiply or divide DE by a power of two, by B mod 32 places, and the barrel rotate by B mod 16: left
and right, signed, and filling with ones (R444 to R448). MUL and the six adds write one pair (R449 to R455). None writes a
flag. -/
def Obligations.ExtendedPairOperations : Prop :=
  ∀ (s : State) (nn : Word),
    (∃ t, exec .bsla s = .next t ∧ t.de.toNat = s.de.toNat * 2 ^ (s.b.toNat % 32) % 65536 ∧ t = { s with de := t.de }) ∧
    (∃ t, exec .bsra s = .next t ∧ t.de.toInt = s.de.toInt / 2 ^ (s.b.toNat % 32) ∧ t = { s with de := t.de }) ∧
    (∃ t, exec .bsrl s = .next t ∧ t.de.toNat = s.de.toNat / 2 ^ (s.b.toNat % 32) ∧ t = { s with de := t.de }) ∧
    (∃ t, exec .bsrf s = .next t ∧ t.de.toNat = 65535 - (65535 - s.de.toNat) / 2 ^ (s.b.toNat % 32) ∧
      t = { s with de := t.de }) ∧
    (∃ t, exec .brlc s = .next t ∧
      t.de.toNat = s.de.toNat * 2 ^ (s.b.toNat % 16) % 65536 + s.de.toNat / 2 ^ (16 - s.b.toNat % 16) ∧
      t = { s with de := t.de }) ∧
    (∃ t, exec .mulDE s = .next t ∧ t.de.toNat = (hiByte s.de).toNat * (loByte s.de).toNat ∧ t = { s with de := t.de }) ∧
    (∀ e ∈ [(Instr.addHlA, s.a.toNat, 0), (.addHlNn nn, nn.toNat, 8)], ∃ t, exec e.1 s = .next t ∧
      t.hl.toNat = (s.hl.toNat + e.2.1) % 65536 ∧ t = { s with hl := t.hl, ticks := s.ticks + e.2.2 }) ∧
    (∀ e ∈ [(Instr.addDeA, s.a.toNat, 0), (.addDeNn nn, nn.toNat, 8)], ∃ t, exec e.1 s = .next t ∧
      t.de.toNat = (s.de.toNat + e.2.1) % 65536 ∧ t = { s with de := t.de, ticks := s.ticks + e.2.2 }) ∧
    (∀ e ∈ [(Instr.addBcA, s.a.toNat, 0), (.addBcNn nn, nn.toNat, 8)], ∃ t, exec e.1 s = .next t ∧
      t.bc.toNat = (s.bc.toNat + e.2.1) % 65536 ∧ t = { s with bc := t.bc, ticks := s.ticks + e.2.2 })

/-- PIXELAD puts the screen address of row D and column E in HL, PIXELDN moves HL down one row, and within the 192 rows of
the screen they agree: the address of row D moved down is that of row D + 1 (R460, R461). -/
def Obligations.PixelAddressesFollowTheRows : Prop :=
  (∀ s : State, ∃ t, exec .pixelad s = .next t ∧ t = { s with hl := t.hl } ∧
    t.hl.toNat = 16384 + 2048 * ((hiByte s.de).toNat / 64) + 256 * ((hiByte s.de).toNat % 8) +
      32 * ((hiByte s.de).toNat / 8 % 8) + (loByte s.de).toNat / 8) ∧
  (∀ s : State, exec .pixeldn s = .next { s with
    hl := if (hiByte s.hl).toNat % 8 ≠ 7 then s.hl + 0x0100
      else if (loByte s.hl).toNat / 32 ≠ 7 then s.hl - 0x06E0 else s.hl + 0x0020 }) ∧
  ∀ (s : State) (d e : Byte), d.toNat < 191 → s.de = d ++ e →
    ∃ t u v, exec .pixelad s = .next t ∧ exec .pixeldn t = .next u ∧
      exec .pixelad { s with de := (d + 1) ++ e } = .next v ∧ u.hl = v.hl

/-- NEXTREG selects the register and then writes it on the extended-register device, and without the device does nothing
(R458, R459, R499); JP (C) takes bits 13 to 6 of the target from the port and the rest from PC and zeros (R463). -/
def Obligations.ExtendedDevicesAndPortJump : Prop :=
  ∀ (s : State) (n v : Byte),
    (∀ e ∈ [(Instr.nextregN n v, v, 12), (.nextregA n, s.a, 9)], exec e.1 s = .next
      { s with deviceCalls := (if s.cfg.extRegDevice then [.extSetValue e.2.1, .extSelect n] else []) ++ s.deviceCalls
               ticks := s.ticks + e.2.2 }) ∧
    (∃ t, exec .jpC s = .next t ∧ t.pc.toNat = s.pc.toNat / 16384 * 16384 + 64 * (s.portIn s.bc).toNat ∧
      t = { s with pc := t.pc, portDraws := s.portDraws + 1, ticks := s.ticks + 5,
                   deviceCalls := .portRead s.bc (s.portIn s.bc) :: s.deviceCalls })

/-! ### 30_encoding.md and 60_exceptions.md: prefixes and signals -/

/-- A prefix byte sets the decoder's state and blocks interrupts, and does nothing else (R102). In the middle of an
instruction, whichever decoder state that is, no signal is serviced (R101, R483), and an index prefix after an index
prefix only replaces it, with 4 ticks and one refresh (R542): a run of prefix bytes holds off every signal. That the byte
buffer grows without a bound along such a run is the model's choice (log entry 10, DESIGN CHOICE). -/
def Obligations.PrefixBytesHoldOffSignals : Prop :=
  (∀ s : State, s.dec ≠ .idle → s.pendingService = none ∧
    ∃ t, exec s.currentInstr s.fetched = .next t ∧ step s = .next (s.endCall t)) ∧
  ∀ (s : State) (x : Idx),
    (∀ e ∈ [(Instr.prefixCB, DecoderState.bitPending), (.prefixDD, .indexPending .ix), (.prefixFD, .indexPending .iy),
           (.prefixED, .extendedPending), (.prefixCBX x, .indexBitPending x), (.prefixAfterX x .dd, .indexPending .ix),
           (.prefixAfterX x .fd, .indexPending .iy), (.prefixAfterX x .ed, .extendedPending)],
      exec e.1 s = .next { s with dec := e.2, intBlocked := true }) ∧
    ∀ y : Idx, s.dec = .indexPending x →
      s.read s.pc = (if y = .ix then 0xDD else 0xFD) →
      ∃ t, step s = .next t ∧ t.r.toNat = refreshedBy 1 s.r ∧
        t = { s with dec := .indexPending y, intBlocked := true, pc := s.pc + 1, r := t.r, ticks := s.ticks + 4
                     instrBytes := s.instrBytes ++ [s.read s.pc],
                     deviceCalls := .memRead s.pc (s.read s.pc) :: s.deviceCalls }

/-- The order of service in an Idle call, under both settings of `SIGNAL_ORDER` (R484), with the acceptance condition of
INT (R486): the first clause that holds is serviced, by its service alone, and if none holds the call runs the instruction
at PC. -/
def Obligations.SignalsAreServicedInOrder : Prop :=
  ∀ s : State, s.dec = .idle → ∃ t, exec s.currentInstr s.fetched = .next t ∧
    (s.cfg.signalOrder = .doc → step s = .next (
      if s.int = true ∧ s.iff1 = true ∧ s.intBlocked = false then s.acceptInt
      else if s.halted = true then s.haltedSpin
      else if s.resetSig = true then s.resetSequence
      else if s.nmi = true then s.acceptNmi
      else s.endCall t)) ∧
    (s.cfg.signalOrder = .z80 → step s = .next (
      if s.resetSig = true then s.resetSequence
      else if s.nmi = true then s.acceptNmi
      else if s.int = true ∧ s.iff1 = true ∧ s.intBlocked = false then s.acceptInt
      else if s.halted = true then s.haltedSpin
      else s.endCall t))

/-- Accepting INT (R487, R489, R494): both flip-flops cleared, HALTED left with PC past the HALT byte, that PC pushed high
byte first, and PC and WZ at 0x0038 in 13 ticks, or, in mode 2, at the word at {I, 0xFF} in 19, which is read after the
push, low byte first. INT stays pending. -/
def Obligations.AcceptedInterruptsEnterTheirHandler : Prop :=
  ∀ s : State, s.mem.wf = true → s.pendingService = some .acceptInt →
    ∃ t, step s = .next t ∧ s.storesWord t (s.sp - 2) (if s.halted then s.pc + 1 else s.pc) ∧
      (s.im = .m0 ∨ s.im = .m1 → t.pc = 0x0038 ∧ t.ticks = s.ticks + 13 ∧
        t.deviceCalls = pushWrites s.sp (if s.halted then s.pc + 1 else s.pc) ++ s.deviceCalls) ∧
      (s.im = .m2 → t.ticks = s.ticks + 19 ∧
        ∃ u : State, u.cfg = s.cfg ∧ u.mem = t.mem ∧
          u.deviceCalls = pushWrites s.sp (if s.halted then s.pc + 1 else s.pc) ++ s.deviceCalls ∧
          t.pc.toNat = u.wordAt (s.i ++ (0xFF : Byte)) ∧
          t.deviceCalls = u.wordReads (s.i ++ (0xFF : Byte)) ++ u.deviceCalls) ∧
      t.r.toNat = refreshedBy (if s.cfg.rIncOnAck then 1 else 0) s.r ∧
      t = { s with mem := t.mem, halted := false, iff1 := false, iff2 := false, r := t.r, sp := s.sp - 2, pc := t.pc
                   wz := t.pc, ticks := t.ticks, deviceCalls := t.deviceCalls }

/-- Accepting NMI (R491, R494): NMI cleared under `NMI_AUTOCLEAR`, IFF1 saved in IFF2 and cleared, HALTED left with PC past
the HALT byte, that PC pushed, and PC and WZ at 0x0066 in 11 ticks, whatever the interrupt mode. -/
def Obligations.NonMaskableInterruptsEnterTheirHandler : Prop :=
  ∀ s : State, s.mem.wf = true → s.pendingService = some .acceptNmi →
    ∃ t, step s = .next t ∧ s.storesWord t (s.sp - 2) (if s.halted then s.pc + 1 else s.pc) ∧
      t.r.toNat = refreshedBy (if s.cfg.rIncOnAck then 1 else 0) s.r ∧
      t = { s with mem := t.mem, nmi := s.nmi && !s.cfg.nmiAutoclear, halted := false, iff1 := false, iff2 := s.iff1
                   r := t.r, sp := s.sp - 2, pc := 0x0066, wz := 0x0066, ticks := s.ticks + 11,
                   deviceCalls := pushWrites s.sp (if s.halted then s.pc + 1 else s.pc) ++ s.deviceCalls }

/-- The halted-spin refreshes R, unblocks interrupts and takes 4 ticks, and nothing else changes (R493). The reset
sequence sets what R530 sets and nothing else, and is the same whether the host runs it or the RESET signal is
serviced (R531). That it leaves the trace fields opcode, instrStart and prevPC, which R42 leaves unspecified, is the
model's choice (log entry 9, DESIGN CHOICE). -/
def Obligations.SpinAndResetChangeWhatTheySay : Prop :=
  (∀ s : State, s.pendingService = some .haltedSpin → ∃ t, step s = .next t ∧ t.r.toNat = refreshedBy 1 s.r ∧
    t = { s with r := t.r, intBlocked := false, ticks := s.ticks + 4 }) ∧
  ∀ s : State, (s.pendingService = some .reset → step s = hostOp .reset s) ∧
    hostOp .reset s = .next
      { s with iff1 := false, iff2 := false, im := .m0, dec := .idle, instrBytes := [], pc := 0, i := 0, r := 0
               ticks := 0, resetSig := false, halted := false, nmi := false, int := false, intBlocked := false }

/-- The EI shadow (R298, R484, R541): with `EI_DELAY`, after the call that runs EI, prefixed or not, a pending INT waits
for the whole next instruction, prefix bytes and all: none of that instruction's calls services a signal, together they
run it (`EI; RETI` is R541's example), and at its end, unless it was EI itself, the INT is acceptable if IFF1 is still set.
Without `EI_DELAY` the INT is accepted at once. Host block-interrupts-once gives the same shadow up to the next
boundary. -/
def Obligations.EnableInterruptsShadowsOneInstruction : Prop :=
  (∀ s : State, s.pendingService = none → s.currentInstr.isEi = true →
    s.halted = false → s.resetSig = false → s.nmi = false → s.int = true →
    ∃ t, step s = .next t ∧ t.dec = .idle ∧ t.pc = s.pc + 1 ∧ t.iff1 = true ∧ t.iff2 = true ∧
      (s.cfg.eiDelay = false → t.pendingService = some .acceptInt) ∧
      (s.cfg.eiDelay = true → ∀ (bs : List Byte) (i : Instr),
        decodeBytes t.cfg bs = .ok i → i.isPrefixRow = false →
        (∀ (k : Nat) (h : k < bs.length), t.byteAt k = bs[k]) →
        (∀ k < callCount .idle bs, ∃ u, t.calls k = .next u ∧ u.pendingService = none) ∧
        ∃ u v, exec i (t.wholeFetched bs) = .next u ∧ t.calls (callCount .idle bs) = .next v ∧
          v = { u with dec := .idle, instrBytes := [], intBlocked := i.isEi, prevPC := u.instrStart } ∧
          v.intAcceptable = (u.iff1 && !i.isEi))) ∧
  ∀ s : State, ∃ t, hostOp .blockInterruptsOnce s = .next t ∧ t = { s with intBlocked := true } ∧
    t.pendingService ≠ some .acceptInt ∧
    (t.pendingService = none → t.currentInstr.isEi = false → t.currentInstr.isPrefixRow = false →
      ∃ u, step t = .next u ∧ u.intBlocked = false)

/-- The contention model has no effect (R547): every call's state change, its ticks included, is the same under both. -/
def Obligations.ContentionModelHasNoEffect : Prop :=
  ∀ (s t : State) (c : ContentionModel), step s = .next t →
    step { s with cfg := { s.cfg with contention := c } } = .next { t with cfg := { t.cfg with contention := c } }

end
end

