-- ==== Sys2Proof/Laws/Decode.lean ====
section
/-! SUPPORT. Selectors and opcode fields: reading a field of an opcode built by the encoder gives the field back. -/

namespace Sys2Proof

@[simp] theorem Reg8.ofSel_sel (r : Reg8) : Reg8.ofSel r.sel = some r := by cases r <;> rfl

/-- Only selector 6 names no register, and every other names the one whose selector it is. -/
theorem Reg8.sel_ofSel (b : BitVec 3) :
    (b = 6 ∧ Reg8.ofSel b = none) ∨ ∃ r, Reg8.ofSel b = some r ∧ r.sel = b := by
  revert b; decide +revert

@[simp] theorem Rp.ofSel_sel (p : Rp) : Rp.ofSel p.sel = p := by cases p <;> rfl
@[simp] theorem Rp2.ofSel_sel (q : Rp2) : Rp2.ofSel q.sel = q := by cases q <;> rfl
@[simp] theorem Cond.ofSel_sel (cc : Cond) : Cond.ofSel cc.sel = cc := by cases cc <;> rfl

@[simp] theorem fieldX_opc (x : BitVec 2) (y z : BitVec 3) : fieldX (opc x y z) = x := by revert x y z; decide
@[simp] theorem fieldY_opc (x : BitVec 2) (y z : BitVec 3) : fieldY (opc x y z) = y := by revert x y z; decide
@[simp] theorem fieldZ_opc (x : BitVec 2) (y z : BitVec 3) : fieldZ (opc x y z) = z := by revert x y z; decide

/-- An opcode is made of its fields. -/
theorem opc_fields (o : Byte) : opc (fieldX o) (fieldY o) (fieldZ o) = o := by revert o; decide

@[simp] theorem fieldX_opcP (x p : BitVec 2) (q : BitVec 1) (z : BitVec 3) : fieldX (opcP x p q z) = x := by
  revert x p q z; decide
@[simp] theorem fieldP_opcP (x p : BitVec 2) (q : BitVec 1) (z : BitVec 3) : fieldP (opcP x p q z) = p := by
  revert x p q z; decide
@[simp] theorem fieldZ_opcP (x p : BitVec 2) (q : BitVec 1) (z : BitVec 3) : fieldZ (opcP x p q z) = z := by
  revert x p q z; decide

/-- Prefix bytes in the states that recognise them (R102). -/
theorem prefixState_idle (x : Idx) : prefixState .idle x.prefixByte = some (.indexPending x) := by cases x <;> rfl
theorem prefixState_index (x y : Idx) : prefixState (.indexPending x) y.prefixByte = some (.indexPending y) := by
  cases x <;> cases y <;> rfl

/-- No byte is a prefix once CB or ED has been consumed (R102). -/
theorem prefixState_bit (b : Byte) : prefixState .bitPending b = none := rfl
theorem prefixState_extended (b : Byte) : prefixState .extendedPending b = none := rfl
theorem prefixState_indexBit (x : Idx) (b : Byte) : prefixState (.indexBitPending x) b = none := rfl

end Sys2Proof
end

