-- ==== Sys2Proof/Laws/Flags.lean ====
section
/-! SUPPORT. The halves of a pair and the bits of a flag byte. -/

namespace Sys2Proof

@[simp] theorem hiByte_joinBytes (h l : Byte) : hiByte (joinBytes h l) = h := by
  ext i hi; simp only [hiByte, joinBytes, BitVec.getElem_extractLsb', BitVec.getLsbD_append]
  simp [show ¬ 8 + i < 8 by omega, hi]

@[simp] theorem loByte_joinBytes (h l : Byte) : loByte (joinBytes h l) = l := by
  ext i hi; simp only [loByte, joinBytes, BitVec.getElem_extractLsb', BitVec.getLsbD_append]
  simp [hi]

@[simp] theorem joinBytes_hi_lo (w : Word) : joinBytes (hiByte w) (loByte w) = w := by
  apply BitVec.eq_of_getLsbD_eq
  intro i hi
  simp only [hiByte, loByte, joinBytes, BitVec.getLsbD_append, BitVec.getLsbD_extractLsb']
  split
  · simp [*]
  · rw [show 8 + (i - 8) = i by omega]; simp [show i - 8 < 8 by omega]

@[simp] theorem hiByte_setHiByte (w : Word) (v : Byte) : hiByte (setHiByte w v) = v := hiByte_joinBytes _ _
@[simp] theorem loByte_setHiByte (w : Word) (v : Byte) : loByte (setHiByte w v) = loByte w := loByte_joinBytes _ _
@[simp] theorem hiByte_setLoByte (w : Word) (v : Byte) : hiByte (setLoByte w v) = hiByte w := hiByte_joinBytes _ _
@[simp] theorem loByte_setLoByte (w : Word) (v : Byte) : loByte (setLoByte w v) = v := loByte_joinBytes _ _

/-- The value of a joined word. -/
theorem toNat_joinBytes (h l : Byte) : (joinBytes h l).toNat = 256 * h.toNat + l.toNat := by
  simp only [joinBytes, BitVec.toNat_append]
  rw [← Nat.shiftLeft_add_eq_or_of_lt l.isLt, Nat.shiftLeft_eq]
  omega

namespace Machine

@[simp] theorem fS_flagByte (s z y h x p n c : Bool) : fS (flagByte s z y h x p n c) = s := by
  cases s <;> cases z <;> cases y <;> cases h <;> cases x <;> cases p <;> cases n <;> cases c <;> rfl
@[simp] theorem fZ_flagByte (s z y h x p n c : Bool) : fZ (flagByte s z y h x p n c) = z := by
  cases s <;> cases z <;> cases y <;> cases h <;> cases x <;> cases p <;> cases n <;> cases c <;> rfl
@[simp] theorem fY_flagByte (s z y h x p n c : Bool) : fY (flagByte s z y h x p n c) = y := by
  cases s <;> cases z <;> cases y <;> cases h <;> cases x <;> cases p <;> cases n <;> cases c <;> rfl
@[simp] theorem fH_flagByte (s z y h x p n c : Bool) : fH (flagByte s z y h x p n c) = h := by
  cases s <;> cases z <;> cases y <;> cases h <;> cases x <;> cases p <;> cases n <;> cases c <;> rfl
@[simp] theorem fX_flagByte (s z y h x p n c : Bool) : fX (flagByte s z y h x p n c) = x := by
  cases s <;> cases z <;> cases y <;> cases h <;> cases x <;> cases p <;> cases n <;> cases c <;> rfl
@[simp] theorem fPV_flagByte (s z y h x p n c : Bool) : fPV (flagByte s z y h x p n c) = p := by
  cases s <;> cases z <;> cases y <;> cases h <;> cases x <;> cases p <;> cases n <;> cases c <;> rfl
@[simp] theorem fN_flagByte (s z y h x p n c : Bool) : fN (flagByte s z y h x p n c) = n := by
  cases s <;> cases z <;> cases y <;> cases h <;> cases x <;> cases p <;> cases n <;> cases c <;> rfl
@[simp] theorem fC_flagByte (s z y h x p n c : Bool) : fC (flagByte s z y h x p n c) = c := by
  cases s <;> cases z <;> cases y <;> cases h <;> cases x <;> cases p <;> cases n <;> cases c <;> rfl

@[simp] theorem State.a_setAF (s : State) (v : Byte × Byte) : (s.setAF v).a = v.1 := hiByte_joinBytes _ _
@[simp] theorem State.f_setAF (s : State) (v : Byte × Byte) : (s.setAF v).f = v.2 := loByte_joinBytes _ _
@[simp] theorem State.a_setA (s : State) (v : Byte) : (s.setA v).a = v := hiByte_setHiByte _ _
@[simp] theorem State.f_setA (s : State) (v : Byte) : (s.setA v).f = s.f := loByte_setHiByte _ _
@[simp] theorem State.a_setF (s : State) (v : Byte) : (s.setF v).a = s.a := hiByte_setLoByte _ _
@[simp] theorem State.f_setF (s : State) (v : Byte) : (s.setF v).f = v := loByte_setLoByte _ _

/-- Writing a register and reading one. -/
theorem State.r8_setR8 (s : State) (r q : Reg8) (v : Byte) : (s.setR8 r v).r8 q = if q = r then v else s.r8 q := by
  cases r <;> cases q <;> simp [State.setR8, State.r8]

/-- The same where 4 and 5 name the halves of an index register. -/
theorem State.r8X_setR8X (s : State) (x : Idx) (r q : Reg8) (v : Byte) :
    (s.setR8X x r v).r8X x q = if q = r then v else s.r8X x q := by
  cases r <;> cases q <;> cases x <;>
    simp [State.setR8X, State.r8X, State.setR8, State.r8, State.setHalf, State.half, State.setIdx, State.idx]

/-- Writing a pair and reading one. -/
theorem State.rp_setRp (s : State) (p q : Rp) (v : Word) : (s.setRp p v).rp q = if q = p then v else s.rp q := by
  cases p <;> cases q <;> rfl

theorem State.rp2_setRp2 (s : State) (p q : Rp2) (v : Word) : (s.setRp2 p v).rp2 q = if q = p then v else s.rp2 q := by
  cases p <;> cases q <;> rfl

end Machine

end Sys2Proof
end

