-- ==== Sys2Proof/Laws/Memory.lean ====
section
/-! SUPPORT. Reading, writing and the canonical form of memory. -/

namespace Sys2Proof.Machine

theorem Memory.read_write_same (m : Memory) (a : Nat) (v : Byte) (lo : Nat) (h : Memory.wfFrom lo m = true) :
    Memory.read (Memory.write m a v) a = v := by
  induction m generalizing lo with
  | nil => simp only [Memory.write]; split <;> simp_all [Memory.read]
  | cons c m ih =>
    obtain ⟨b, w⟩ := c
    have low : ∀ lo, Memory.wfFrom lo m = true → a < lo → Memory.read m a = Memory.unlisted := by
      clear ih h
      induction m with
      | nil => intros; rfl
      | cons c m ih =>
        intro lo h hl
        simp only [Memory.wfFrom, Bool.and_eq_true, decide_eq_true_eq] at h
        rw [Memory.read, if_neg (by omega)]
        exact ih _ h.2 (by omega)
    simp only [Memory.wfFrom, Bool.and_eq_true, decide_eq_true_eq] at h
    simp only [Memory.write]
    split
    · split
      · rw [Memory.read, if_neg (by omega), low _ h.2 (by omega)]; exact (‹v = _›).symm
      · simp [Memory.read]
    · split
      · split
        · rw [low _ h.2 (by omega)]; exact (‹v = _›).symm
        · simp [Memory.read]
      · rw [Memory.read, if_neg ‹_›]
        exact ih _ h.2

theorem Memory.read_write_other (m : Memory) (a b : Nat) (v : Byte) (hab : b ≠ a) :
    Memory.read (Memory.write m a v) b = Memory.read m b := by
  induction m with
  | nil => simp only [Memory.write]; split <;> simp [Memory.read, hab]
  | cons c m ih =>
    obtain ⟨d, w⟩ := c
    simp only [Memory.write]
    split
    · split <;> simp [Memory.read, hab]
    · split
      · subst_vars; split <;> simp [Memory.read, hab]
      · simp only [Memory.read]; rw [ih]

theorem Memory.wfFrom_mono {m : Memory} {lo lo' : Nat} (h : Memory.wfFrom lo m = true) (hl : lo' ≤ lo) :
    Memory.wfFrom lo' m = true := by
  cases m with
  | nil => rfl
  | cons c m =>
    simp only [Memory.wfFrom, Bool.and_eq_true, decide_eq_true_eq] at h ⊢
    exact ⟨⟨⟨by omega, h.1.1.2⟩, h.1.2⟩, h.2⟩

theorem Memory.wfFrom_write (m : Memory) (a : Nat) (v : Byte) (lo : Nat) (h : Memory.wfFrom lo m = true)
    (hl : lo ≤ a) (ha : a < 65536) : Memory.wfFrom lo (Memory.write m a v) = true := by
  induction m generalizing lo with
  | nil => simp only [Memory.write]; split <;> simp_all [Memory.wfFrom]
  | cons c m ih =>
    obtain ⟨b, w⟩ := c
    have h0 := h
    simp only [Memory.wfFrom, Bool.and_eq_true, decide_eq_true_eq] at h
    simp only [Memory.write]
    split
    · split
      · exact h0
      · simp only [Memory.wfFrom, Bool.and_eq_true, decide_eq_true_eq]
        exact ⟨⟨⟨hl, ha⟩, ‹_›⟩, ⟨⟨by omega, h.1.1.2⟩, h.1.2⟩, h.2⟩
    · split
      · subst_vars
        split
        · exact Memory.wfFrom_mono h.2 (by omega)
        · simp only [Memory.wfFrom, Bool.and_eq_true, decide_eq_true_eq]
          exact ⟨⟨⟨hl, ha⟩, ‹_›⟩, h.2⟩
      · simp only [Memory.wfFrom, Bool.and_eq_true, decide_eq_true_eq]
        exact ⟨⟨⟨h.1.1.1, h.1.1.2⟩, h.1.2⟩, ih _ h.2 (by omega)⟩

/-- Every write keeps the canonical form. -/
theorem Memory.wf_write (m : Memory) (a : Word) (v : Byte) (h : Memory.wf m = true) :
    Memory.wf (Memory.write m a.toNat v) = true :=
  Memory.wfFrom_write m _ v 0 h (Nat.zero_le _) a.isLt

/-- Two memories in canonical form that read the same everywhere are the same list. -/
theorem Memory.wfFrom_ext (m n : Memory) (lo : Nat) (hm : Memory.wfFrom lo m = true) (hn : Memory.wfFrom lo n = true)
    (h : ∀ a, Memory.read m a = Memory.read n a) : m = n := by
  have low : ∀ (m : Memory) (lo a : Nat), Memory.wfFrom lo m = true → a < lo → Memory.read m a = Memory.unlisted := by
    intro m
    induction m with
    | nil => intros; rfl
    | cons c m ih =>
      intro lo a h hl
      simp only [Memory.wfFrom, Bool.and_eq_true, decide_eq_true_eq] at h
      rw [Memory.read, if_neg (by omega)]
      exact ih _ _ h.2 (by omega)
  induction m generalizing n lo with
  | nil =>
    cases n with
    | nil => rfl
    | cons c n =>
      simp only [Memory.wfFrom, Bool.and_eq_true, decide_eq_true_eq] at hn
      have := h c.1
      simp [Memory.read] at this
      exact absurd this.symm hn.1.2
  | cons c m ih =>
    obtain ⟨b, w⟩ := c
    have hm0 := hm
    simp only [Memory.wfFrom, Bool.and_eq_true, decide_eq_true_eq] at hm
    cases n with
    | nil =>
      have := h b
      simp [Memory.read] at this
      exact absurd this hm.1.2
    | cons d n =>
      obtain ⟨b', w'⟩ := d
      have hn0 := hn
      simp only [Memory.wfFrom, Bool.and_eq_true, decide_eq_true_eq] at hn
      have hb : b = b' := by
        rcases Nat.lt_trichotomy b b' with hlt | heq | hgt
        · have := h b
          rw [Memory.read, if_pos rfl, Memory.read, if_neg (by omega), low n _ b hn.2 (by omega)] at this
          exact absurd this hm.1.2
        · exact heq
        · have := h b'
          rw [Memory.read, if_neg (by omega), low m _ b' hm.2 (by omega), Memory.read, if_pos rfl] at this
          exact absurd this.symm hn.1.2
      subst hb
      have hw : w = w' := by simpa [Memory.read] using h b
      subst hw
      have : m = n := by
        refine ih n (b + 1) hm.2 hn.2 fun a => ?_
        by_cases hab : a = b
        · subst hab; rw [low m _ _ hm.2 (by omega), low n _ _ hn.2 (by omega)]
        · simpa [Memory.read, hab] using h a
      rw [this]

/-! ### Through the state -/

theorem State.read_ram {s : State} (h : s.cfg.memDevice = .ram) (a : Word) : s.read a = Memory.read s.mem a.toNat := by
  simp only [State.read, h]

/-- Reading the default RAM has no effect on it (R66). -/
theorem State.read_called {s : State} (h : s.cfg.memDevice = .ram) (c : DeviceCall) (a : Word) :
    (s.called c).read a = s.read a := by
  rw [State.read_ram h, State.read_ram (s := s.called c) h]; rfl

theorem State.read_afterRead {s : State} (h : s.cfg.memDevice = .ram) (a b : Word) :
    (s.afterRead a).read b = s.read b :=
  State.read_called h _ b

theorem State.read_write_same (s : State) (a : Word) (v : Byte) (hr : s.cfg.memDevice = .ram) (h : s.mem.wf = true) :
    (s.write a v).read a = v := by
  rw [State.read_ram (s := s.write a v) hr]
  show Memory.read (s.memWith a v) a.toNat = v
  simp only [State.memWith, hr]
  exact Memory.read_write_same _ _ _ 0 h

theorem State.read_write_other (s : State) (a b : Word) (v : Byte) (hr : s.cfg.memDevice = .ram) (h : b ≠ a) :
    (s.write a v).read b = s.read b := by
  rw [State.read_ram (s := s.write a v) hr, State.read_ram hr]
  show Memory.read (s.memWith a v) b.toNat = _
  simp only [State.memWith, hr]
  exact Memory.read_write_other _ _ _ _ fun e => h (BitVec.eq_of_toNat_eq e)

theorem State.wf_memWith (s : State) (a : Word) (v : Byte) (h : s.mem.wf = true) : (s.memWith a v).wf = true := by
  unfold State.memWith
  split
  · exact Memory.wf_write _ _ _ h
  · exact h

theorem State.wf_write (s : State) (a : Word) (v : Byte) (h : s.mem.wf = true) : (s.write a v).mem.wf = true :=
  State.wf_memWith s a v h

theorem State.wf_push16 (s : State) (v : Word) (h : s.mem.wf = true) : (s.push16 v).mem.wf = true :=
  State.wf_write _ _ _ (State.wf_write _ _ _ h)

theorem State.wf_write16 (s : State) (a v : Word) (h : s.mem.wf = true) : (s.write16 a v).mem.wf = true :=
  State.wf_write _ _ _ (State.wf_write _ _ _ h)

/-- Placing bytes keeps the canonical form. -/
theorem Memory.wf_place (m : Memory) (a : Word) (bs : List Byte) (h : Memory.wf m = true) :
    Memory.wf (Memory.place m a bs) = true := by
  induction bs generalizing m a with
  | nil => exact h
  | cons b bs ih => exact ih _ _ (Memory.wf_write _ _ _ h)

end Sys2Proof.Machine
end

