-- ==== Sys2Proof/Laws/State.lean ====
section
/-! SUPPORT. One lemma per field for every named update of the state: what it holds after the update. -/

namespace Sys2Proof.Machine

/-! `State.setA` -/

@[simp] theorem State.setA_af (s : State) (v : Byte) : (s.setA v).af = setHiByte s.af v := rfl
@[simp] theorem State.setA_bc (s : State) (v : Byte) : (s.setA v).bc = s.bc := rfl
@[simp] theorem State.setA_de (s : State) (v : Byte) : (s.setA v).de = s.de := rfl
@[simp] theorem State.setA_hl (s : State) (v : Byte) : (s.setA v).hl = s.hl := rfl
@[simp] theorem State.setA_afAlt (s : State) (v : Byte) : (s.setA v).afAlt = s.afAlt := rfl
@[simp] theorem State.setA_bcAlt (s : State) (v : Byte) : (s.setA v).bcAlt = s.bcAlt := rfl
@[simp] theorem State.setA_deAlt (s : State) (v : Byte) : (s.setA v).deAlt = s.deAlt := rfl
@[simp] theorem State.setA_hlAlt (s : State) (v : Byte) : (s.setA v).hlAlt = s.hlAlt := rfl
@[simp] theorem State.setA_ix (s : State) (v : Byte) : (s.setA v).ix = s.ix := rfl
@[simp] theorem State.setA_iy (s : State) (v : Byte) : (s.setA v).iy = s.iy := rfl
@[simp] theorem State.setA_sp (s : State) (v : Byte) : (s.setA v).sp = s.sp := rfl
@[simp] theorem State.setA_pc (s : State) (v : Byte) : (s.setA v).pc = s.pc := rfl
@[simp] theorem State.setA_wz (s : State) (v : Byte) : (s.setA v).wz = s.wz := rfl
@[simp] theorem State.setA_i (s : State) (v : Byte) : (s.setA v).i = s.i := rfl
@[simp] theorem State.setA_r (s : State) (v : Byte) : (s.setA v).r = s.r := rfl
@[simp] theorem State.setA_iff1 (s : State) (v : Byte) : (s.setA v).iff1 = s.iff1 := rfl
@[simp] theorem State.setA_iff2 (s : State) (v : Byte) : (s.setA v).iff2 = s.iff2 := rfl
@[simp] theorem State.setA_im (s : State) (v : Byte) : (s.setA v).im = s.im := rfl
@[simp] theorem State.setA_resetSig (s : State) (v : Byte) : (s.setA v).resetSig = s.resetSig := rfl
@[simp] theorem State.setA_halted (s : State) (v : Byte) : (s.setA v).halted = s.halted := rfl
@[simp] theorem State.setA_nmi (s : State) (v : Byte) : (s.setA v).nmi = s.nmi := rfl
@[simp] theorem State.setA_int (s : State) (v : Byte) : (s.setA v).int = s.int := rfl
@[simp] theorem State.setA_dec (s : State) (v : Byte) : (s.setA v).dec = s.dec := rfl
@[simp] theorem State.setA_intBlocked (s : State) (v : Byte) : (s.setA v).intBlocked = s.intBlocked := rfl
@[simp] theorem State.setA_opcode (s : State) (v : Byte) : (s.setA v).opcode = s.opcode := rfl
@[simp] theorem State.setA_instrBytes (s : State) (v : Byte) : (s.setA v).instrBytes = s.instrBytes := rfl
@[simp] theorem State.setA_instrStart (s : State) (v : Byte) : (s.setA v).instrStart = s.instrStart := rfl
@[simp] theorem State.setA_prevPC (s : State) (v : Byte) : (s.setA v).prevPC = s.prevPC := rfl
@[simp] theorem State.setA_ticks (s : State) (v : Byte) : (s.setA v).ticks = s.ticks := rfl
@[simp] theorem State.setA_mem (s : State) (v : Byte) : (s.setA v).mem = s.mem := rfl
@[simp] theorem State.setA_deviceCalls (s : State) (v : Byte) : (s.setA v).deviceCalls = s.deviceCalls := rfl
@[simp] theorem State.setA_portDraws (s : State) (v : Byte) : (s.setA v).portDraws = s.portDraws := rfl
@[simp] theorem State.setA_cfg (s : State) (v : Byte) : (s.setA v).cfg = s.cfg := rfl
@[simp] theorem State.setA_read (s : State) (v : Byte) (x : Word) : (s.setA v).read x = s.read x := rfl
@[simp] theorem State.setA_portIn (s : State) (v : Byte) (x : Word) : (s.setA v).portIn x = s.portIn x := rfl

/-! `State.setF` -/

@[simp] theorem State.setF_af (s : State) (v : Byte) : (s.setF v).af = setLoByte s.af v := rfl
@[simp] theorem State.setF_bc (s : State) (v : Byte) : (s.setF v).bc = s.bc := rfl
@[simp] theorem State.setF_de (s : State) (v : Byte) : (s.setF v).de = s.de := rfl
@[simp] theorem State.setF_hl (s : State) (v : Byte) : (s.setF v).hl = s.hl := rfl
@[simp] theorem State.setF_afAlt (s : State) (v : Byte) : (s.setF v).afAlt = s.afAlt := rfl
@[simp] theorem State.setF_bcAlt (s : State) (v : Byte) : (s.setF v).bcAlt = s.bcAlt := rfl
@[simp] theorem State.setF_deAlt (s : State) (v : Byte) : (s.setF v).deAlt = s.deAlt := rfl
@[simp] theorem State.setF_hlAlt (s : State) (v : Byte) : (s.setF v).hlAlt = s.hlAlt := rfl
@[simp] theorem State.setF_ix (s : State) (v : Byte) : (s.setF v).ix = s.ix := rfl
@[simp] theorem State.setF_iy (s : State) (v : Byte) : (s.setF v).iy = s.iy := rfl
@[simp] theorem State.setF_sp (s : State) (v : Byte) : (s.setF v).sp = s.sp := rfl
@[simp] theorem State.setF_pc (s : State) (v : Byte) : (s.setF v).pc = s.pc := rfl
@[simp] theorem State.setF_wz (s : State) (v : Byte) : (s.setF v).wz = s.wz := rfl
@[simp] theorem State.setF_i (s : State) (v : Byte) : (s.setF v).i = s.i := rfl
@[simp] theorem State.setF_r (s : State) (v : Byte) : (s.setF v).r = s.r := rfl
@[simp] theorem State.setF_iff1 (s : State) (v : Byte) : (s.setF v).iff1 = s.iff1 := rfl
@[simp] theorem State.setF_iff2 (s : State) (v : Byte) : (s.setF v).iff2 = s.iff2 := rfl
@[simp] theorem State.setF_im (s : State) (v : Byte) : (s.setF v).im = s.im := rfl
@[simp] theorem State.setF_resetSig (s : State) (v : Byte) : (s.setF v).resetSig = s.resetSig := rfl
@[simp] theorem State.setF_halted (s : State) (v : Byte) : (s.setF v).halted = s.halted := rfl
@[simp] theorem State.setF_nmi (s : State) (v : Byte) : (s.setF v).nmi = s.nmi := rfl
@[simp] theorem State.setF_int (s : State) (v : Byte) : (s.setF v).int = s.int := rfl
@[simp] theorem State.setF_dec (s : State) (v : Byte) : (s.setF v).dec = s.dec := rfl
@[simp] theorem State.setF_intBlocked (s : State) (v : Byte) : (s.setF v).intBlocked = s.intBlocked := rfl
@[simp] theorem State.setF_opcode (s : State) (v : Byte) : (s.setF v).opcode = s.opcode := rfl
@[simp] theorem State.setF_instrBytes (s : State) (v : Byte) : (s.setF v).instrBytes = s.instrBytes := rfl
@[simp] theorem State.setF_instrStart (s : State) (v : Byte) : (s.setF v).instrStart = s.instrStart := rfl
@[simp] theorem State.setF_prevPC (s : State) (v : Byte) : (s.setF v).prevPC = s.prevPC := rfl
@[simp] theorem State.setF_ticks (s : State) (v : Byte) : (s.setF v).ticks = s.ticks := rfl
@[simp] theorem State.setF_mem (s : State) (v : Byte) : (s.setF v).mem = s.mem := rfl
@[simp] theorem State.setF_deviceCalls (s : State) (v : Byte) : (s.setF v).deviceCalls = s.deviceCalls := rfl
@[simp] theorem State.setF_portDraws (s : State) (v : Byte) : (s.setF v).portDraws = s.portDraws := rfl
@[simp] theorem State.setF_cfg (s : State) (v : Byte) : (s.setF v).cfg = s.cfg := rfl
@[simp] theorem State.setF_read (s : State) (v : Byte) (x : Word) : (s.setF v).read x = s.read x := rfl
@[simp] theorem State.setF_portIn (s : State) (v : Byte) (x : Word) : (s.setF v).portIn x = s.portIn x := rfl

/-! `State.setAF` -/

@[simp] theorem State.setAF_af (s : State) (v : Byte × Byte) : (s.setAF v).af = joinBytes v.1 v.2 := rfl
@[simp] theorem State.setAF_bc (s : State) (v : Byte × Byte) : (s.setAF v).bc = s.bc := rfl
@[simp] theorem State.setAF_de (s : State) (v : Byte × Byte) : (s.setAF v).de = s.de := rfl
@[simp] theorem State.setAF_hl (s : State) (v : Byte × Byte) : (s.setAF v).hl = s.hl := rfl
@[simp] theorem State.setAF_afAlt (s : State) (v : Byte × Byte) : (s.setAF v).afAlt = s.afAlt := rfl
@[simp] theorem State.setAF_bcAlt (s : State) (v : Byte × Byte) : (s.setAF v).bcAlt = s.bcAlt := rfl
@[simp] theorem State.setAF_deAlt (s : State) (v : Byte × Byte) : (s.setAF v).deAlt = s.deAlt := rfl
@[simp] theorem State.setAF_hlAlt (s : State) (v : Byte × Byte) : (s.setAF v).hlAlt = s.hlAlt := rfl
@[simp] theorem State.setAF_ix (s : State) (v : Byte × Byte) : (s.setAF v).ix = s.ix := rfl
@[simp] theorem State.setAF_iy (s : State) (v : Byte × Byte) : (s.setAF v).iy = s.iy := rfl
@[simp] theorem State.setAF_sp (s : State) (v : Byte × Byte) : (s.setAF v).sp = s.sp := rfl
@[simp] theorem State.setAF_pc (s : State) (v : Byte × Byte) : (s.setAF v).pc = s.pc := rfl
@[simp] theorem State.setAF_wz (s : State) (v : Byte × Byte) : (s.setAF v).wz = s.wz := rfl
@[simp] theorem State.setAF_i (s : State) (v : Byte × Byte) : (s.setAF v).i = s.i := rfl
@[simp] theorem State.setAF_r (s : State) (v : Byte × Byte) : (s.setAF v).r = s.r := rfl
@[simp] theorem State.setAF_iff1 (s : State) (v : Byte × Byte) : (s.setAF v).iff1 = s.iff1 := rfl
@[simp] theorem State.setAF_iff2 (s : State) (v : Byte × Byte) : (s.setAF v).iff2 = s.iff2 := rfl
@[simp] theorem State.setAF_im (s : State) (v : Byte × Byte) : (s.setAF v).im = s.im := rfl
@[simp] theorem State.setAF_resetSig (s : State) (v : Byte × Byte) : (s.setAF v).resetSig = s.resetSig := rfl
@[simp] theorem State.setAF_halted (s : State) (v : Byte × Byte) : (s.setAF v).halted = s.halted := rfl
@[simp] theorem State.setAF_nmi (s : State) (v : Byte × Byte) : (s.setAF v).nmi = s.nmi := rfl
@[simp] theorem State.setAF_int (s : State) (v : Byte × Byte) : (s.setAF v).int = s.int := rfl
@[simp] theorem State.setAF_dec (s : State) (v : Byte × Byte) : (s.setAF v).dec = s.dec := rfl
@[simp] theorem State.setAF_intBlocked (s : State) (v : Byte × Byte) : (s.setAF v).intBlocked = s.intBlocked := rfl
@[simp] theorem State.setAF_opcode (s : State) (v : Byte × Byte) : (s.setAF v).opcode = s.opcode := rfl
@[simp] theorem State.setAF_instrBytes (s : State) (v : Byte × Byte) : (s.setAF v).instrBytes = s.instrBytes := rfl
@[simp] theorem State.setAF_instrStart (s : State) (v : Byte × Byte) : (s.setAF v).instrStart = s.instrStart := rfl
@[simp] theorem State.setAF_prevPC (s : State) (v : Byte × Byte) : (s.setAF v).prevPC = s.prevPC := rfl
@[simp] theorem State.setAF_ticks (s : State) (v : Byte × Byte) : (s.setAF v).ticks = s.ticks := rfl
@[simp] theorem State.setAF_mem (s : State) (v : Byte × Byte) : (s.setAF v).mem = s.mem := rfl
@[simp] theorem State.setAF_deviceCalls (s : State) (v : Byte × Byte) : (s.setAF v).deviceCalls = s.deviceCalls := rfl
@[simp] theorem State.setAF_portDraws (s : State) (v : Byte × Byte) : (s.setAF v).portDraws = s.portDraws := rfl
@[simp] theorem State.setAF_cfg (s : State) (v : Byte × Byte) : (s.setAF v).cfg = s.cfg := rfl
@[simp] theorem State.setAF_read (s : State) (v : Byte × Byte) (x : Word) : (s.setAF v).read x = s.read x := rfl
@[simp] theorem State.setAF_portIn (s : State) (v : Byte × Byte) (x : Word) : (s.setAF v).portIn x = s.portIn x := rfl

/-! `State.setBc` -/

@[simp] theorem State.setBc_af (s : State) (v : Word) : (s.setBc v).af = s.af := rfl
@[simp] theorem State.setBc_bc (s : State) (v : Word) : (s.setBc v).bc = v := rfl
@[simp] theorem State.setBc_de (s : State) (v : Word) : (s.setBc v).de = s.de := rfl
@[simp] theorem State.setBc_hl (s : State) (v : Word) : (s.setBc v).hl = s.hl := rfl
@[simp] theorem State.setBc_afAlt (s : State) (v : Word) : (s.setBc v).afAlt = s.afAlt := rfl
@[simp] theorem State.setBc_bcAlt (s : State) (v : Word) : (s.setBc v).bcAlt = s.bcAlt := rfl
@[simp] theorem State.setBc_deAlt (s : State) (v : Word) : (s.setBc v).deAlt = s.deAlt := rfl
@[simp] theorem State.setBc_hlAlt (s : State) (v : Word) : (s.setBc v).hlAlt = s.hlAlt := rfl
@[simp] theorem State.setBc_ix (s : State) (v : Word) : (s.setBc v).ix = s.ix := rfl
@[simp] theorem State.setBc_iy (s : State) (v : Word) : (s.setBc v).iy = s.iy := rfl
@[simp] theorem State.setBc_sp (s : State) (v : Word) : (s.setBc v).sp = s.sp := rfl
@[simp] theorem State.setBc_pc (s : State) (v : Word) : (s.setBc v).pc = s.pc := rfl
@[simp] theorem State.setBc_wz (s : State) (v : Word) : (s.setBc v).wz = s.wz := rfl
@[simp] theorem State.setBc_i (s : State) (v : Word) : (s.setBc v).i = s.i := rfl
@[simp] theorem State.setBc_r (s : State) (v : Word) : (s.setBc v).r = s.r := rfl
@[simp] theorem State.setBc_iff1 (s : State) (v : Word) : (s.setBc v).iff1 = s.iff1 := rfl
@[simp] theorem State.setBc_iff2 (s : State) (v : Word) : (s.setBc v).iff2 = s.iff2 := rfl
@[simp] theorem State.setBc_im (s : State) (v : Word) : (s.setBc v).im = s.im := rfl
@[simp] theorem State.setBc_resetSig (s : State) (v : Word) : (s.setBc v).resetSig = s.resetSig := rfl
@[simp] theorem State.setBc_halted (s : State) (v : Word) : (s.setBc v).halted = s.halted := rfl
@[simp] theorem State.setBc_nmi (s : State) (v : Word) : (s.setBc v).nmi = s.nmi := rfl
@[simp] theorem State.setBc_int (s : State) (v : Word) : (s.setBc v).int = s.int := rfl
@[simp] theorem State.setBc_dec (s : State) (v : Word) : (s.setBc v).dec = s.dec := rfl
@[simp] theorem State.setBc_intBlocked (s : State) (v : Word) : (s.setBc v).intBlocked = s.intBlocked := rfl
@[simp] theorem State.setBc_opcode (s : State) (v : Word) : (s.setBc v).opcode = s.opcode := rfl
@[simp] theorem State.setBc_instrBytes (s : State) (v : Word) : (s.setBc v).instrBytes = s.instrBytes := rfl
@[simp] theorem State.setBc_instrStart (s : State) (v : Word) : (s.setBc v).instrStart = s.instrStart := rfl
@[simp] theorem State.setBc_prevPC (s : State) (v : Word) : (s.setBc v).prevPC = s.prevPC := rfl
@[simp] theorem State.setBc_ticks (s : State) (v : Word) : (s.setBc v).ticks = s.ticks := rfl
@[simp] theorem State.setBc_mem (s : State) (v : Word) : (s.setBc v).mem = s.mem := rfl
@[simp] theorem State.setBc_deviceCalls (s : State) (v : Word) : (s.setBc v).deviceCalls = s.deviceCalls := rfl
@[simp] theorem State.setBc_portDraws (s : State) (v : Word) : (s.setBc v).portDraws = s.portDraws := rfl
@[simp] theorem State.setBc_cfg (s : State) (v : Word) : (s.setBc v).cfg = s.cfg := rfl
@[simp] theorem State.setBc_read (s : State) (v : Word) (x : Word) : (s.setBc v).read x = s.read x := rfl
@[simp] theorem State.setBc_portIn (s : State) (v : Word) (x : Word) : (s.setBc v).portIn x = s.portIn x := rfl

/-! `State.setDe` -/

@[simp] theorem State.setDe_af (s : State) (v : Word) : (s.setDe v).af = s.af := rfl
@[simp] theorem State.setDe_bc (s : State) (v : Word) : (s.setDe v).bc = s.bc := rfl
@[simp] theorem State.setDe_de (s : State) (v : Word) : (s.setDe v).de = v := rfl
@[simp] theorem State.setDe_hl (s : State) (v : Word) : (s.setDe v).hl = s.hl := rfl
@[simp] theorem State.setDe_afAlt (s : State) (v : Word) : (s.setDe v).afAlt = s.afAlt := rfl
@[simp] theorem State.setDe_bcAlt (s : State) (v : Word) : (s.setDe v).bcAlt = s.bcAlt := rfl
@[simp] theorem State.setDe_deAlt (s : State) (v : Word) : (s.setDe v).deAlt = s.deAlt := rfl
@[simp] theorem State.setDe_hlAlt (s : State) (v : Word) : (s.setDe v).hlAlt = s.hlAlt := rfl
@[simp] theorem State.setDe_ix (s : State) (v : Word) : (s.setDe v).ix = s.ix := rfl
@[simp] theorem State.setDe_iy (s : State) (v : Word) : (s.setDe v).iy = s.iy := rfl
@[simp] theorem State.setDe_sp (s : State) (v : Word) : (s.setDe v).sp = s.sp := rfl
@[simp] theorem State.setDe_pc (s : State) (v : Word) : (s.setDe v).pc = s.pc := rfl
@[simp] theorem State.setDe_wz (s : State) (v : Word) : (s.setDe v).wz = s.wz := rfl
@[simp] theorem State.setDe_i (s : State) (v : Word) : (s.setDe v).i = s.i := rfl
@[simp] theorem State.setDe_r (s : State) (v : Word) : (s.setDe v).r = s.r := rfl
@[simp] theorem State.setDe_iff1 (s : State) (v : Word) : (s.setDe v).iff1 = s.iff1 := rfl
@[simp] theorem State.setDe_iff2 (s : State) (v : Word) : (s.setDe v).iff2 = s.iff2 := rfl
@[simp] theorem State.setDe_im (s : State) (v : Word) : (s.setDe v).im = s.im := rfl
@[simp] theorem State.setDe_resetSig (s : State) (v : Word) : (s.setDe v).resetSig = s.resetSig := rfl
@[simp] theorem State.setDe_halted (s : State) (v : Word) : (s.setDe v).halted = s.halted := rfl
@[simp] theorem State.setDe_nmi (s : State) (v : Word) : (s.setDe v).nmi = s.nmi := rfl
@[simp] theorem State.setDe_int (s : State) (v : Word) : (s.setDe v).int = s.int := rfl
@[simp] theorem State.setDe_dec (s : State) (v : Word) : (s.setDe v).dec = s.dec := rfl
@[simp] theorem State.setDe_intBlocked (s : State) (v : Word) : (s.setDe v).intBlocked = s.intBlocked := rfl
@[simp] theorem State.setDe_opcode (s : State) (v : Word) : (s.setDe v).opcode = s.opcode := rfl
@[simp] theorem State.setDe_instrBytes (s : State) (v : Word) : (s.setDe v).instrBytes = s.instrBytes := rfl
@[simp] theorem State.setDe_instrStart (s : State) (v : Word) : (s.setDe v).instrStart = s.instrStart := rfl
@[simp] theorem State.setDe_prevPC (s : State) (v : Word) : (s.setDe v).prevPC = s.prevPC := rfl
@[simp] theorem State.setDe_ticks (s : State) (v : Word) : (s.setDe v).ticks = s.ticks := rfl
@[simp] theorem State.setDe_mem (s : State) (v : Word) : (s.setDe v).mem = s.mem := rfl
@[simp] theorem State.setDe_deviceCalls (s : State) (v : Word) : (s.setDe v).deviceCalls = s.deviceCalls := rfl
@[simp] theorem State.setDe_portDraws (s : State) (v : Word) : (s.setDe v).portDraws = s.portDraws := rfl
@[simp] theorem State.setDe_cfg (s : State) (v : Word) : (s.setDe v).cfg = s.cfg := rfl
@[simp] theorem State.setDe_read (s : State) (v : Word) (x : Word) : (s.setDe v).read x = s.read x := rfl
@[simp] theorem State.setDe_portIn (s : State) (v : Word) (x : Word) : (s.setDe v).portIn x = s.portIn x := rfl

/-! `State.setHl` -/

@[simp] theorem State.setHl_af (s : State) (v : Word) : (s.setHl v).af = s.af := rfl
@[simp] theorem State.setHl_bc (s : State) (v : Word) : (s.setHl v).bc = s.bc := rfl
@[simp] theorem State.setHl_de (s : State) (v : Word) : (s.setHl v).de = s.de := rfl
@[simp] theorem State.setHl_hl (s : State) (v : Word) : (s.setHl v).hl = v := rfl
@[simp] theorem State.setHl_afAlt (s : State) (v : Word) : (s.setHl v).afAlt = s.afAlt := rfl
@[simp] theorem State.setHl_bcAlt (s : State) (v : Word) : (s.setHl v).bcAlt = s.bcAlt := rfl
@[simp] theorem State.setHl_deAlt (s : State) (v : Word) : (s.setHl v).deAlt = s.deAlt := rfl
@[simp] theorem State.setHl_hlAlt (s : State) (v : Word) : (s.setHl v).hlAlt = s.hlAlt := rfl
@[simp] theorem State.setHl_ix (s : State) (v : Word) : (s.setHl v).ix = s.ix := rfl
@[simp] theorem State.setHl_iy (s : State) (v : Word) : (s.setHl v).iy = s.iy := rfl
@[simp] theorem State.setHl_sp (s : State) (v : Word) : (s.setHl v).sp = s.sp := rfl
@[simp] theorem State.setHl_pc (s : State) (v : Word) : (s.setHl v).pc = s.pc := rfl
@[simp] theorem State.setHl_wz (s : State) (v : Word) : (s.setHl v).wz = s.wz := rfl
@[simp] theorem State.setHl_i (s : State) (v : Word) : (s.setHl v).i = s.i := rfl
@[simp] theorem State.setHl_r (s : State) (v : Word) : (s.setHl v).r = s.r := rfl
@[simp] theorem State.setHl_iff1 (s : State) (v : Word) : (s.setHl v).iff1 = s.iff1 := rfl
@[simp] theorem State.setHl_iff2 (s : State) (v : Word) : (s.setHl v).iff2 = s.iff2 := rfl
@[simp] theorem State.setHl_im (s : State) (v : Word) : (s.setHl v).im = s.im := rfl
@[simp] theorem State.setHl_resetSig (s : State) (v : Word) : (s.setHl v).resetSig = s.resetSig := rfl
@[simp] theorem State.setHl_halted (s : State) (v : Word) : (s.setHl v).halted = s.halted := rfl
@[simp] theorem State.setHl_nmi (s : State) (v : Word) : (s.setHl v).nmi = s.nmi := rfl
@[simp] theorem State.setHl_int (s : State) (v : Word) : (s.setHl v).int = s.int := rfl
@[simp] theorem State.setHl_dec (s : State) (v : Word) : (s.setHl v).dec = s.dec := rfl
@[simp] theorem State.setHl_intBlocked (s : State) (v : Word) : (s.setHl v).intBlocked = s.intBlocked := rfl
@[simp] theorem State.setHl_opcode (s : State) (v : Word) : (s.setHl v).opcode = s.opcode := rfl
@[simp] theorem State.setHl_instrBytes (s : State) (v : Word) : (s.setHl v).instrBytes = s.instrBytes := rfl
@[simp] theorem State.setHl_instrStart (s : State) (v : Word) : (s.setHl v).instrStart = s.instrStart := rfl
@[simp] theorem State.setHl_prevPC (s : State) (v : Word) : (s.setHl v).prevPC = s.prevPC := rfl
@[simp] theorem State.setHl_ticks (s : State) (v : Word) : (s.setHl v).ticks = s.ticks := rfl
@[simp] theorem State.setHl_mem (s : State) (v : Word) : (s.setHl v).mem = s.mem := rfl
@[simp] theorem State.setHl_deviceCalls (s : State) (v : Word) : (s.setHl v).deviceCalls = s.deviceCalls := rfl
@[simp] theorem State.setHl_portDraws (s : State) (v : Word) : (s.setHl v).portDraws = s.portDraws := rfl
@[simp] theorem State.setHl_cfg (s : State) (v : Word) : (s.setHl v).cfg = s.cfg := rfl
@[simp] theorem State.setHl_read (s : State) (v : Word) (x : Word) : (s.setHl v).read x = s.read x := rfl
@[simp] theorem State.setHl_portIn (s : State) (v : Word) (x : Word) : (s.setHl v).portIn x = s.portIn x := rfl

/-! `State.setSp` -/

@[simp] theorem State.setSp_af (s : State) (v : Word) : (s.setSp v).af = s.af := rfl
@[simp] theorem State.setSp_bc (s : State) (v : Word) : (s.setSp v).bc = s.bc := rfl
@[simp] theorem State.setSp_de (s : State) (v : Word) : (s.setSp v).de = s.de := rfl
@[simp] theorem State.setSp_hl (s : State) (v : Word) : (s.setSp v).hl = s.hl := rfl
@[simp] theorem State.setSp_afAlt (s : State) (v : Word) : (s.setSp v).afAlt = s.afAlt := rfl
@[simp] theorem State.setSp_bcAlt (s : State) (v : Word) : (s.setSp v).bcAlt = s.bcAlt := rfl
@[simp] theorem State.setSp_deAlt (s : State) (v : Word) : (s.setSp v).deAlt = s.deAlt := rfl
@[simp] theorem State.setSp_hlAlt (s : State) (v : Word) : (s.setSp v).hlAlt = s.hlAlt := rfl
@[simp] theorem State.setSp_ix (s : State) (v : Word) : (s.setSp v).ix = s.ix := rfl
@[simp] theorem State.setSp_iy (s : State) (v : Word) : (s.setSp v).iy = s.iy := rfl
@[simp] theorem State.setSp_sp (s : State) (v : Word) : (s.setSp v).sp = v := rfl
@[simp] theorem State.setSp_pc (s : State) (v : Word) : (s.setSp v).pc = s.pc := rfl
@[simp] theorem State.setSp_wz (s : State) (v : Word) : (s.setSp v).wz = s.wz := rfl
@[simp] theorem State.setSp_i (s : State) (v : Word) : (s.setSp v).i = s.i := rfl
@[simp] theorem State.setSp_r (s : State) (v : Word) : (s.setSp v).r = s.r := rfl
@[simp] theorem State.setSp_iff1 (s : State) (v : Word) : (s.setSp v).iff1 = s.iff1 := rfl
@[simp] theorem State.setSp_iff2 (s : State) (v : Word) : (s.setSp v).iff2 = s.iff2 := rfl
@[simp] theorem State.setSp_im (s : State) (v : Word) : (s.setSp v).im = s.im := rfl
@[simp] theorem State.setSp_resetSig (s : State) (v : Word) : (s.setSp v).resetSig = s.resetSig := rfl
@[simp] theorem State.setSp_halted (s : State) (v : Word) : (s.setSp v).halted = s.halted := rfl
@[simp] theorem State.setSp_nmi (s : State) (v : Word) : (s.setSp v).nmi = s.nmi := rfl
@[simp] theorem State.setSp_int (s : State) (v : Word) : (s.setSp v).int = s.int := rfl
@[simp] theorem State.setSp_dec (s : State) (v : Word) : (s.setSp v).dec = s.dec := rfl
@[simp] theorem State.setSp_intBlocked (s : State) (v : Word) : (s.setSp v).intBlocked = s.intBlocked := rfl
@[simp] theorem State.setSp_opcode (s : State) (v : Word) : (s.setSp v).opcode = s.opcode := rfl
@[simp] theorem State.setSp_instrBytes (s : State) (v : Word) : (s.setSp v).instrBytes = s.instrBytes := rfl
@[simp] theorem State.setSp_instrStart (s : State) (v : Word) : (s.setSp v).instrStart = s.instrStart := rfl
@[simp] theorem State.setSp_prevPC (s : State) (v : Word) : (s.setSp v).prevPC = s.prevPC := rfl
@[simp] theorem State.setSp_ticks (s : State) (v : Word) : (s.setSp v).ticks = s.ticks := rfl
@[simp] theorem State.setSp_mem (s : State) (v : Word) : (s.setSp v).mem = s.mem := rfl
@[simp] theorem State.setSp_deviceCalls (s : State) (v : Word) : (s.setSp v).deviceCalls = s.deviceCalls := rfl
@[simp] theorem State.setSp_portDraws (s : State) (v : Word) : (s.setSp v).portDraws = s.portDraws := rfl
@[simp] theorem State.setSp_cfg (s : State) (v : Word) : (s.setSp v).cfg = s.cfg := rfl
@[simp] theorem State.setSp_read (s : State) (v : Word) (x : Word) : (s.setSp v).read x = s.read x := rfl
@[simp] theorem State.setSp_portIn (s : State) (v : Word) (x : Word) : (s.setSp v).portIn x = s.portIn x := rfl

/-! `State.setPc` -/

@[simp] theorem State.setPc_af (s : State) (v : Word) : (s.setPc v).af = s.af := rfl
@[simp] theorem State.setPc_bc (s : State) (v : Word) : (s.setPc v).bc = s.bc := rfl
@[simp] theorem State.setPc_de (s : State) (v : Word) : (s.setPc v).de = s.de := rfl
@[simp] theorem State.setPc_hl (s : State) (v : Word) : (s.setPc v).hl = s.hl := rfl
@[simp] theorem State.setPc_afAlt (s : State) (v : Word) : (s.setPc v).afAlt = s.afAlt := rfl
@[simp] theorem State.setPc_bcAlt (s : State) (v : Word) : (s.setPc v).bcAlt = s.bcAlt := rfl
@[simp] theorem State.setPc_deAlt (s : State) (v : Word) : (s.setPc v).deAlt = s.deAlt := rfl
@[simp] theorem State.setPc_hlAlt (s : State) (v : Word) : (s.setPc v).hlAlt = s.hlAlt := rfl
@[simp] theorem State.setPc_ix (s : State) (v : Word) : (s.setPc v).ix = s.ix := rfl
@[simp] theorem State.setPc_iy (s : State) (v : Word) : (s.setPc v).iy = s.iy := rfl
@[simp] theorem State.setPc_sp (s : State) (v : Word) : (s.setPc v).sp = s.sp := rfl
@[simp] theorem State.setPc_pc (s : State) (v : Word) : (s.setPc v).pc = v := rfl
@[simp] theorem State.setPc_wz (s : State) (v : Word) : (s.setPc v).wz = s.wz := rfl
@[simp] theorem State.setPc_i (s : State) (v : Word) : (s.setPc v).i = s.i := rfl
@[simp] theorem State.setPc_r (s : State) (v : Word) : (s.setPc v).r = s.r := rfl
@[simp] theorem State.setPc_iff1 (s : State) (v : Word) : (s.setPc v).iff1 = s.iff1 := rfl
@[simp] theorem State.setPc_iff2 (s : State) (v : Word) : (s.setPc v).iff2 = s.iff2 := rfl
@[simp] theorem State.setPc_im (s : State) (v : Word) : (s.setPc v).im = s.im := rfl
@[simp] theorem State.setPc_resetSig (s : State) (v : Word) : (s.setPc v).resetSig = s.resetSig := rfl
@[simp] theorem State.setPc_halted (s : State) (v : Word) : (s.setPc v).halted = s.halted := rfl
@[simp] theorem State.setPc_nmi (s : State) (v : Word) : (s.setPc v).nmi = s.nmi := rfl
@[simp] theorem State.setPc_int (s : State) (v : Word) : (s.setPc v).int = s.int := rfl
@[simp] theorem State.setPc_dec (s : State) (v : Word) : (s.setPc v).dec = s.dec := rfl
@[simp] theorem State.setPc_intBlocked (s : State) (v : Word) : (s.setPc v).intBlocked = s.intBlocked := rfl
@[simp] theorem State.setPc_opcode (s : State) (v : Word) : (s.setPc v).opcode = s.opcode := rfl
@[simp] theorem State.setPc_instrBytes (s : State) (v : Word) : (s.setPc v).instrBytes = s.instrBytes := rfl
@[simp] theorem State.setPc_instrStart (s : State) (v : Word) : (s.setPc v).instrStart = s.instrStart := rfl
@[simp] theorem State.setPc_prevPC (s : State) (v : Word) : (s.setPc v).prevPC = s.prevPC := rfl
@[simp] theorem State.setPc_ticks (s : State) (v : Word) : (s.setPc v).ticks = s.ticks := rfl
@[simp] theorem State.setPc_mem (s : State) (v : Word) : (s.setPc v).mem = s.mem := rfl
@[simp] theorem State.setPc_deviceCalls (s : State) (v : Word) : (s.setPc v).deviceCalls = s.deviceCalls := rfl
@[simp] theorem State.setPc_portDraws (s : State) (v : Word) : (s.setPc v).portDraws = s.portDraws := rfl
@[simp] theorem State.setPc_cfg (s : State) (v : Word) : (s.setPc v).cfg = s.cfg := rfl
@[simp] theorem State.setPc_read (s : State) (v : Word) (x : Word) : (s.setPc v).read x = s.read x := rfl
@[simp] theorem State.setPc_portIn (s : State) (v : Word) (x : Word) : (s.setPc v).portIn x = s.portIn x := rfl

/-! `State.setWz` -/

@[simp] theorem State.setWz_af (s : State) (v : Word) : (s.setWz v).af = s.af := rfl
@[simp] theorem State.setWz_bc (s : State) (v : Word) : (s.setWz v).bc = s.bc := rfl
@[simp] theorem State.setWz_de (s : State) (v : Word) : (s.setWz v).de = s.de := rfl
@[simp] theorem State.setWz_hl (s : State) (v : Word) : (s.setWz v).hl = s.hl := rfl
@[simp] theorem State.setWz_afAlt (s : State) (v : Word) : (s.setWz v).afAlt = s.afAlt := rfl
@[simp] theorem State.setWz_bcAlt (s : State) (v : Word) : (s.setWz v).bcAlt = s.bcAlt := rfl
@[simp] theorem State.setWz_deAlt (s : State) (v : Word) : (s.setWz v).deAlt = s.deAlt := rfl
@[simp] theorem State.setWz_hlAlt (s : State) (v : Word) : (s.setWz v).hlAlt = s.hlAlt := rfl
@[simp] theorem State.setWz_ix (s : State) (v : Word) : (s.setWz v).ix = s.ix := rfl
@[simp] theorem State.setWz_iy (s : State) (v : Word) : (s.setWz v).iy = s.iy := rfl
@[simp] theorem State.setWz_sp (s : State) (v : Word) : (s.setWz v).sp = s.sp := rfl
@[simp] theorem State.setWz_pc (s : State) (v : Word) : (s.setWz v).pc = s.pc := rfl
@[simp] theorem State.setWz_wz (s : State) (v : Word) : (s.setWz v).wz = v := rfl
@[simp] theorem State.setWz_i (s : State) (v : Word) : (s.setWz v).i = s.i := rfl
@[simp] theorem State.setWz_r (s : State) (v : Word) : (s.setWz v).r = s.r := rfl
@[simp] theorem State.setWz_iff1 (s : State) (v : Word) : (s.setWz v).iff1 = s.iff1 := rfl
@[simp] theorem State.setWz_iff2 (s : State) (v : Word) : (s.setWz v).iff2 = s.iff2 := rfl
@[simp] theorem State.setWz_im (s : State) (v : Word) : (s.setWz v).im = s.im := rfl
@[simp] theorem State.setWz_resetSig (s : State) (v : Word) : (s.setWz v).resetSig = s.resetSig := rfl
@[simp] theorem State.setWz_halted (s : State) (v : Word) : (s.setWz v).halted = s.halted := rfl
@[simp] theorem State.setWz_nmi (s : State) (v : Word) : (s.setWz v).nmi = s.nmi := rfl
@[simp] theorem State.setWz_int (s : State) (v : Word) : (s.setWz v).int = s.int := rfl
@[simp] theorem State.setWz_dec (s : State) (v : Word) : (s.setWz v).dec = s.dec := rfl
@[simp] theorem State.setWz_intBlocked (s : State) (v : Word) : (s.setWz v).intBlocked = s.intBlocked := rfl
@[simp] theorem State.setWz_opcode (s : State) (v : Word) : (s.setWz v).opcode = s.opcode := rfl
@[simp] theorem State.setWz_instrBytes (s : State) (v : Word) : (s.setWz v).instrBytes = s.instrBytes := rfl
@[simp] theorem State.setWz_instrStart (s : State) (v : Word) : (s.setWz v).instrStart = s.instrStart := rfl
@[simp] theorem State.setWz_prevPC (s : State) (v : Word) : (s.setWz v).prevPC = s.prevPC := rfl
@[simp] theorem State.setWz_ticks (s : State) (v : Word) : (s.setWz v).ticks = s.ticks := rfl
@[simp] theorem State.setWz_mem (s : State) (v : Word) : (s.setWz v).mem = s.mem := rfl
@[simp] theorem State.setWz_deviceCalls (s : State) (v : Word) : (s.setWz v).deviceCalls = s.deviceCalls := rfl
@[simp] theorem State.setWz_portDraws (s : State) (v : Word) : (s.setWz v).portDraws = s.portDraws := rfl
@[simp] theorem State.setWz_cfg (s : State) (v : Word) : (s.setWz v).cfg = s.cfg := rfl
@[simp] theorem State.setWz_read (s : State) (v : Word) (x : Word) : (s.setWz v).read x = s.read x := rfl
@[simp] theorem State.setWz_portIn (s : State) (v : Word) (x : Word) : (s.setWz v).portIn x = s.portIn x := rfl

/-! `State.setI` -/

@[simp] theorem State.setI_af (s : State) (v : Byte) : (s.setI v).af = s.af := rfl
@[simp] theorem State.setI_bc (s : State) (v : Byte) : (s.setI v).bc = s.bc := rfl
@[simp] theorem State.setI_de (s : State) (v : Byte) : (s.setI v).de = s.de := rfl
@[simp] theorem State.setI_hl (s : State) (v : Byte) : (s.setI v).hl = s.hl := rfl
@[simp] theorem State.setI_afAlt (s : State) (v : Byte) : (s.setI v).afAlt = s.afAlt := rfl
@[simp] theorem State.setI_bcAlt (s : State) (v : Byte) : (s.setI v).bcAlt = s.bcAlt := rfl
@[simp] theorem State.setI_deAlt (s : State) (v : Byte) : (s.setI v).deAlt = s.deAlt := rfl
@[simp] theorem State.setI_hlAlt (s : State) (v : Byte) : (s.setI v).hlAlt = s.hlAlt := rfl
@[simp] theorem State.setI_ix (s : State) (v : Byte) : (s.setI v).ix = s.ix := rfl
@[simp] theorem State.setI_iy (s : State) (v : Byte) : (s.setI v).iy = s.iy := rfl
@[simp] theorem State.setI_sp (s : State) (v : Byte) : (s.setI v).sp = s.sp := rfl
@[simp] theorem State.setI_pc (s : State) (v : Byte) : (s.setI v).pc = s.pc := rfl
@[simp] theorem State.setI_wz (s : State) (v : Byte) : (s.setI v).wz = s.wz := rfl
@[simp] theorem State.setI_i (s : State) (v : Byte) : (s.setI v).i = v := rfl
@[simp] theorem State.setI_r (s : State) (v : Byte) : (s.setI v).r = s.r := rfl
@[simp] theorem State.setI_iff1 (s : State) (v : Byte) : (s.setI v).iff1 = s.iff1 := rfl
@[simp] theorem State.setI_iff2 (s : State) (v : Byte) : (s.setI v).iff2 = s.iff2 := rfl
@[simp] theorem State.setI_im (s : State) (v : Byte) : (s.setI v).im = s.im := rfl
@[simp] theorem State.setI_resetSig (s : State) (v : Byte) : (s.setI v).resetSig = s.resetSig := rfl
@[simp] theorem State.setI_halted (s : State) (v : Byte) : (s.setI v).halted = s.halted := rfl
@[simp] theorem State.setI_nmi (s : State) (v : Byte) : (s.setI v).nmi = s.nmi := rfl
@[simp] theorem State.setI_int (s : State) (v : Byte) : (s.setI v).int = s.int := rfl
@[simp] theorem State.setI_dec (s : State) (v : Byte) : (s.setI v).dec = s.dec := rfl
@[simp] theorem State.setI_intBlocked (s : State) (v : Byte) : (s.setI v).intBlocked = s.intBlocked := rfl
@[simp] theorem State.setI_opcode (s : State) (v : Byte) : (s.setI v).opcode = s.opcode := rfl
@[simp] theorem State.setI_instrBytes (s : State) (v : Byte) : (s.setI v).instrBytes = s.instrBytes := rfl
@[simp] theorem State.setI_instrStart (s : State) (v : Byte) : (s.setI v).instrStart = s.instrStart := rfl
@[simp] theorem State.setI_prevPC (s : State) (v : Byte) : (s.setI v).prevPC = s.prevPC := rfl
@[simp] theorem State.setI_ticks (s : State) (v : Byte) : (s.setI v).ticks = s.ticks := rfl
@[simp] theorem State.setI_mem (s : State) (v : Byte) : (s.setI v).mem = s.mem := rfl
@[simp] theorem State.setI_deviceCalls (s : State) (v : Byte) : (s.setI v).deviceCalls = s.deviceCalls := rfl
@[simp] theorem State.setI_portDraws (s : State) (v : Byte) : (s.setI v).portDraws = s.portDraws := rfl
@[simp] theorem State.setI_cfg (s : State) (v : Byte) : (s.setI v).cfg = s.cfg := rfl
@[simp] theorem State.setI_read (s : State) (v : Byte) (x : Word) : (s.setI v).read x = s.read x := rfl
@[simp] theorem State.setI_portIn (s : State) (v : Byte) (x : Word) : (s.setI v).portIn x = s.portIn x := rfl

/-! `State.setR` -/

@[simp] theorem State.setR_af (s : State) (v : Byte) : (s.setR v).af = s.af := rfl
@[simp] theorem State.setR_bc (s : State) (v : Byte) : (s.setR v).bc = s.bc := rfl
@[simp] theorem State.setR_de (s : State) (v : Byte) : (s.setR v).de = s.de := rfl
@[simp] theorem State.setR_hl (s : State) (v : Byte) : (s.setR v).hl = s.hl := rfl
@[simp] theorem State.setR_afAlt (s : State) (v : Byte) : (s.setR v).afAlt = s.afAlt := rfl
@[simp] theorem State.setR_bcAlt (s : State) (v : Byte) : (s.setR v).bcAlt = s.bcAlt := rfl
@[simp] theorem State.setR_deAlt (s : State) (v : Byte) : (s.setR v).deAlt = s.deAlt := rfl
@[simp] theorem State.setR_hlAlt (s : State) (v : Byte) : (s.setR v).hlAlt = s.hlAlt := rfl
@[simp] theorem State.setR_ix (s : State) (v : Byte) : (s.setR v).ix = s.ix := rfl
@[simp] theorem State.setR_iy (s : State) (v : Byte) : (s.setR v).iy = s.iy := rfl
@[simp] theorem State.setR_sp (s : State) (v : Byte) : (s.setR v).sp = s.sp := rfl
@[simp] theorem State.setR_pc (s : State) (v : Byte) : (s.setR v).pc = s.pc := rfl
@[simp] theorem State.setR_wz (s : State) (v : Byte) : (s.setR v).wz = s.wz := rfl
@[simp] theorem State.setR_i (s : State) (v : Byte) : (s.setR v).i = s.i := rfl
@[simp] theorem State.setR_r (s : State) (v : Byte) : (s.setR v).r = v := rfl
@[simp] theorem State.setR_iff1 (s : State) (v : Byte) : (s.setR v).iff1 = s.iff1 := rfl
@[simp] theorem State.setR_iff2 (s : State) (v : Byte) : (s.setR v).iff2 = s.iff2 := rfl
@[simp] theorem State.setR_im (s : State) (v : Byte) : (s.setR v).im = s.im := rfl
@[simp] theorem State.setR_resetSig (s : State) (v : Byte) : (s.setR v).resetSig = s.resetSig := rfl
@[simp] theorem State.setR_halted (s : State) (v : Byte) : (s.setR v).halted = s.halted := rfl
@[simp] theorem State.setR_nmi (s : State) (v : Byte) : (s.setR v).nmi = s.nmi := rfl
@[simp] theorem State.setR_int (s : State) (v : Byte) : (s.setR v).int = s.int := rfl
@[simp] theorem State.setR_dec (s : State) (v : Byte) : (s.setR v).dec = s.dec := rfl
@[simp] theorem State.setR_intBlocked (s : State) (v : Byte) : (s.setR v).intBlocked = s.intBlocked := rfl
@[simp] theorem State.setR_opcode (s : State) (v : Byte) : (s.setR v).opcode = s.opcode := rfl
@[simp] theorem State.setR_instrBytes (s : State) (v : Byte) : (s.setR v).instrBytes = s.instrBytes := rfl
@[simp] theorem State.setR_instrStart (s : State) (v : Byte) : (s.setR v).instrStart = s.instrStart := rfl
@[simp] theorem State.setR_prevPC (s : State) (v : Byte) : (s.setR v).prevPC = s.prevPC := rfl
@[simp] theorem State.setR_ticks (s : State) (v : Byte) : (s.setR v).ticks = s.ticks := rfl
@[simp] theorem State.setR_mem (s : State) (v : Byte) : (s.setR v).mem = s.mem := rfl
@[simp] theorem State.setR_deviceCalls (s : State) (v : Byte) : (s.setR v).deviceCalls = s.deviceCalls := rfl
@[simp] theorem State.setR_portDraws (s : State) (v : Byte) : (s.setR v).portDraws = s.portDraws := rfl
@[simp] theorem State.setR_cfg (s : State) (v : Byte) : (s.setR v).cfg = s.cfg := rfl
@[simp] theorem State.setR_read (s : State) (v : Byte) (x : Word) : (s.setR v).read x = s.read x := rfl
@[simp] theorem State.setR_portIn (s : State) (v : Byte) (x : Word) : (s.setR v).portIn x = s.portIn x := rfl

/-! `State.setIffs` -/

@[simp] theorem State.setIffs_af (s : State) (v : Bool) : (s.setIffs v).af = s.af := rfl
@[simp] theorem State.setIffs_bc (s : State) (v : Bool) : (s.setIffs v).bc = s.bc := rfl
@[simp] theorem State.setIffs_de (s : State) (v : Bool) : (s.setIffs v).de = s.de := rfl
@[simp] theorem State.setIffs_hl (s : State) (v : Bool) : (s.setIffs v).hl = s.hl := rfl
@[simp] theorem State.setIffs_afAlt (s : State) (v : Bool) : (s.setIffs v).afAlt = s.afAlt := rfl
@[simp] theorem State.setIffs_bcAlt (s : State) (v : Bool) : (s.setIffs v).bcAlt = s.bcAlt := rfl
@[simp] theorem State.setIffs_deAlt (s : State) (v : Bool) : (s.setIffs v).deAlt = s.deAlt := rfl
@[simp] theorem State.setIffs_hlAlt (s : State) (v : Bool) : (s.setIffs v).hlAlt = s.hlAlt := rfl
@[simp] theorem State.setIffs_ix (s : State) (v : Bool) : (s.setIffs v).ix = s.ix := rfl
@[simp] theorem State.setIffs_iy (s : State) (v : Bool) : (s.setIffs v).iy = s.iy := rfl
@[simp] theorem State.setIffs_sp (s : State) (v : Bool) : (s.setIffs v).sp = s.sp := rfl
@[simp] theorem State.setIffs_pc (s : State) (v : Bool) : (s.setIffs v).pc = s.pc := rfl
@[simp] theorem State.setIffs_wz (s : State) (v : Bool) : (s.setIffs v).wz = s.wz := rfl
@[simp] theorem State.setIffs_i (s : State) (v : Bool) : (s.setIffs v).i = s.i := rfl
@[simp] theorem State.setIffs_r (s : State) (v : Bool) : (s.setIffs v).r = s.r := rfl
@[simp] theorem State.setIffs_iff1 (s : State) (v : Bool) : (s.setIffs v).iff1 = v := rfl
@[simp] theorem State.setIffs_iff2 (s : State) (v : Bool) : (s.setIffs v).iff2 = v := rfl
@[simp] theorem State.setIffs_im (s : State) (v : Bool) : (s.setIffs v).im = s.im := rfl
@[simp] theorem State.setIffs_resetSig (s : State) (v : Bool) : (s.setIffs v).resetSig = s.resetSig := rfl
@[simp] theorem State.setIffs_halted (s : State) (v : Bool) : (s.setIffs v).halted = s.halted := rfl
@[simp] theorem State.setIffs_nmi (s : State) (v : Bool) : (s.setIffs v).nmi = s.nmi := rfl
@[simp] theorem State.setIffs_int (s : State) (v : Bool) : (s.setIffs v).int = s.int := rfl
@[simp] theorem State.setIffs_dec (s : State) (v : Bool) : (s.setIffs v).dec = s.dec := rfl
@[simp] theorem State.setIffs_intBlocked (s : State) (v : Bool) : (s.setIffs v).intBlocked = s.intBlocked := rfl
@[simp] theorem State.setIffs_opcode (s : State) (v : Bool) : (s.setIffs v).opcode = s.opcode := rfl
@[simp] theorem State.setIffs_instrBytes (s : State) (v : Bool) : (s.setIffs v).instrBytes = s.instrBytes := rfl
@[simp] theorem State.setIffs_instrStart (s : State) (v : Bool) : (s.setIffs v).instrStart = s.instrStart := rfl
@[simp] theorem State.setIffs_prevPC (s : State) (v : Bool) : (s.setIffs v).prevPC = s.prevPC := rfl
@[simp] theorem State.setIffs_ticks (s : State) (v : Bool) : (s.setIffs v).ticks = s.ticks := rfl
@[simp] theorem State.setIffs_mem (s : State) (v : Bool) : (s.setIffs v).mem = s.mem := rfl
@[simp] theorem State.setIffs_deviceCalls (s : State) (v : Bool) : (s.setIffs v).deviceCalls = s.deviceCalls := rfl
@[simp] theorem State.setIffs_portDraws (s : State) (v : Bool) : (s.setIffs v).portDraws = s.portDraws := rfl
@[simp] theorem State.setIffs_cfg (s : State) (v : Bool) : (s.setIffs v).cfg = s.cfg := rfl
@[simp] theorem State.setIffs_read (s : State) (v : Bool) (x : Word) : (s.setIffs v).read x = s.read x := rfl
@[simp] theorem State.setIffs_portIn (s : State) (v : Bool) (x : Word) : (s.setIffs v).portIn x = s.portIn x := rfl

/-! `State.setIm` -/

@[simp] theorem State.setIm_af (s : State) (v : IntMode) : (s.setIm v).af = s.af := rfl
@[simp] theorem State.setIm_bc (s : State) (v : IntMode) : (s.setIm v).bc = s.bc := rfl
@[simp] theorem State.setIm_de (s : State) (v : IntMode) : (s.setIm v).de = s.de := rfl
@[simp] theorem State.setIm_hl (s : State) (v : IntMode) : (s.setIm v).hl = s.hl := rfl
@[simp] theorem State.setIm_afAlt (s : State) (v : IntMode) : (s.setIm v).afAlt = s.afAlt := rfl
@[simp] theorem State.setIm_bcAlt (s : State) (v : IntMode) : (s.setIm v).bcAlt = s.bcAlt := rfl
@[simp] theorem State.setIm_deAlt (s : State) (v : IntMode) : (s.setIm v).deAlt = s.deAlt := rfl
@[simp] theorem State.setIm_hlAlt (s : State) (v : IntMode) : (s.setIm v).hlAlt = s.hlAlt := rfl
@[simp] theorem State.setIm_ix (s : State) (v : IntMode) : (s.setIm v).ix = s.ix := rfl
@[simp] theorem State.setIm_iy (s : State) (v : IntMode) : (s.setIm v).iy = s.iy := rfl
@[simp] theorem State.setIm_sp (s : State) (v : IntMode) : (s.setIm v).sp = s.sp := rfl
@[simp] theorem State.setIm_pc (s : State) (v : IntMode) : (s.setIm v).pc = s.pc := rfl
@[simp] theorem State.setIm_wz (s : State) (v : IntMode) : (s.setIm v).wz = s.wz := rfl
@[simp] theorem State.setIm_i (s : State) (v : IntMode) : (s.setIm v).i = s.i := rfl
@[simp] theorem State.setIm_r (s : State) (v : IntMode) : (s.setIm v).r = s.r := rfl
@[simp] theorem State.setIm_iff1 (s : State) (v : IntMode) : (s.setIm v).iff1 = s.iff1 := rfl
@[simp] theorem State.setIm_iff2 (s : State) (v : IntMode) : (s.setIm v).iff2 = s.iff2 := rfl
@[simp] theorem State.setIm_im (s : State) (v : IntMode) : (s.setIm v).im = v := rfl
@[simp] theorem State.setIm_resetSig (s : State) (v : IntMode) : (s.setIm v).resetSig = s.resetSig := rfl
@[simp] theorem State.setIm_halted (s : State) (v : IntMode) : (s.setIm v).halted = s.halted := rfl
@[simp] theorem State.setIm_nmi (s : State) (v : IntMode) : (s.setIm v).nmi = s.nmi := rfl
@[simp] theorem State.setIm_int (s : State) (v : IntMode) : (s.setIm v).int = s.int := rfl
@[simp] theorem State.setIm_dec (s : State) (v : IntMode) : (s.setIm v).dec = s.dec := rfl
@[simp] theorem State.setIm_intBlocked (s : State) (v : IntMode) : (s.setIm v).intBlocked = s.intBlocked := rfl
@[simp] theorem State.setIm_opcode (s : State) (v : IntMode) : (s.setIm v).opcode = s.opcode := rfl
@[simp] theorem State.setIm_instrBytes (s : State) (v : IntMode) : (s.setIm v).instrBytes = s.instrBytes := rfl
@[simp] theorem State.setIm_instrStart (s : State) (v : IntMode) : (s.setIm v).instrStart = s.instrStart := rfl
@[simp] theorem State.setIm_prevPC (s : State) (v : IntMode) : (s.setIm v).prevPC = s.prevPC := rfl
@[simp] theorem State.setIm_ticks (s : State) (v : IntMode) : (s.setIm v).ticks = s.ticks := rfl
@[simp] theorem State.setIm_mem (s : State) (v : IntMode) : (s.setIm v).mem = s.mem := rfl
@[simp] theorem State.setIm_deviceCalls (s : State) (v : IntMode) : (s.setIm v).deviceCalls = s.deviceCalls := rfl
@[simp] theorem State.setIm_portDraws (s : State) (v : IntMode) : (s.setIm v).portDraws = s.portDraws := rfl
@[simp] theorem State.setIm_cfg (s : State) (v : IntMode) : (s.setIm v).cfg = s.cfg := rfl
@[simp] theorem State.setIm_read (s : State) (v : IntMode) (x : Word) : (s.setIm v).read x = s.read x := rfl
@[simp] theorem State.setIm_portIn (s : State) (v : IntMode) (x : Word) : (s.setIm v).portIn x = s.portIn x := rfl

/-! `State.jump` -/

@[simp] theorem State.jump_af (s : State) (v : Word) : (s.jump v).af = s.af := rfl
@[simp] theorem State.jump_bc (s : State) (v : Word) : (s.jump v).bc = s.bc := rfl
@[simp] theorem State.jump_de (s : State) (v : Word) : (s.jump v).de = s.de := rfl
@[simp] theorem State.jump_hl (s : State) (v : Word) : (s.jump v).hl = s.hl := rfl
@[simp] theorem State.jump_afAlt (s : State) (v : Word) : (s.jump v).afAlt = s.afAlt := rfl
@[simp] theorem State.jump_bcAlt (s : State) (v : Word) : (s.jump v).bcAlt = s.bcAlt := rfl
@[simp] theorem State.jump_deAlt (s : State) (v : Word) : (s.jump v).deAlt = s.deAlt := rfl
@[simp] theorem State.jump_hlAlt (s : State) (v : Word) : (s.jump v).hlAlt = s.hlAlt := rfl
@[simp] theorem State.jump_ix (s : State) (v : Word) : (s.jump v).ix = s.ix := rfl
@[simp] theorem State.jump_iy (s : State) (v : Word) : (s.jump v).iy = s.iy := rfl
@[simp] theorem State.jump_sp (s : State) (v : Word) : (s.jump v).sp = s.sp := rfl
@[simp] theorem State.jump_pc (s : State) (v : Word) : (s.jump v).pc = v := rfl
@[simp] theorem State.jump_wz (s : State) (v : Word) : (s.jump v).wz = v := rfl
@[simp] theorem State.jump_i (s : State) (v : Word) : (s.jump v).i = s.i := rfl
@[simp] theorem State.jump_r (s : State) (v : Word) : (s.jump v).r = s.r := rfl
@[simp] theorem State.jump_iff1 (s : State) (v : Word) : (s.jump v).iff1 = s.iff1 := rfl
@[simp] theorem State.jump_iff2 (s : State) (v : Word) : (s.jump v).iff2 = s.iff2 := rfl
@[simp] theorem State.jump_im (s : State) (v : Word) : (s.jump v).im = s.im := rfl
@[simp] theorem State.jump_resetSig (s : State) (v : Word) : (s.jump v).resetSig = s.resetSig := rfl
@[simp] theorem State.jump_halted (s : State) (v : Word) : (s.jump v).halted = s.halted := rfl
@[simp] theorem State.jump_nmi (s : State) (v : Word) : (s.jump v).nmi = s.nmi := rfl
@[simp] theorem State.jump_int (s : State) (v : Word) : (s.jump v).int = s.int := rfl
@[simp] theorem State.jump_dec (s : State) (v : Word) : (s.jump v).dec = s.dec := rfl
@[simp] theorem State.jump_intBlocked (s : State) (v : Word) : (s.jump v).intBlocked = s.intBlocked := rfl
@[simp] theorem State.jump_opcode (s : State) (v : Word) : (s.jump v).opcode = s.opcode := rfl
@[simp] theorem State.jump_instrBytes (s : State) (v : Word) : (s.jump v).instrBytes = s.instrBytes := rfl
@[simp] theorem State.jump_instrStart (s : State) (v : Word) : (s.jump v).instrStart = s.instrStart := rfl
@[simp] theorem State.jump_prevPC (s : State) (v : Word) : (s.jump v).prevPC = s.prevPC := rfl
@[simp] theorem State.jump_ticks (s : State) (v : Word) : (s.jump v).ticks = s.ticks := rfl
@[simp] theorem State.jump_mem (s : State) (v : Word) : (s.jump v).mem = s.mem := rfl
@[simp] theorem State.jump_deviceCalls (s : State) (v : Word) : (s.jump v).deviceCalls = s.deviceCalls := rfl
@[simp] theorem State.jump_portDraws (s : State) (v : Word) : (s.jump v).portDraws = s.portDraws := rfl
@[simp] theorem State.jump_cfg (s : State) (v : Word) : (s.jump v).cfg = s.cfg := rfl
@[simp] theorem State.jump_read (s : State) (v : Word) (x : Word) : (s.jump v).read x = s.read x := rfl
@[simp] theorem State.jump_portIn (s : State) (v : Word) (x : Word) : (s.jump v).portIn x = s.portIn x := rfl

/-! `State.refresh` -/

@[simp] theorem State.refresh_af (s : State) : (s.refresh).af = s.af := rfl
@[simp] theorem State.refresh_bc (s : State) : (s.refresh).bc = s.bc := rfl
@[simp] theorem State.refresh_de (s : State) : (s.refresh).de = s.de := rfl
@[simp] theorem State.refresh_hl (s : State) : (s.refresh).hl = s.hl := rfl
@[simp] theorem State.refresh_afAlt (s : State) : (s.refresh).afAlt = s.afAlt := rfl
@[simp] theorem State.refresh_bcAlt (s : State) : (s.refresh).bcAlt = s.bcAlt := rfl
@[simp] theorem State.refresh_deAlt (s : State) : (s.refresh).deAlt = s.deAlt := rfl
@[simp] theorem State.refresh_hlAlt (s : State) : (s.refresh).hlAlt = s.hlAlt := rfl
@[simp] theorem State.refresh_ix (s : State) : (s.refresh).ix = s.ix := rfl
@[simp] theorem State.refresh_iy (s : State) : (s.refresh).iy = s.iy := rfl
@[simp] theorem State.refresh_sp (s : State) : (s.refresh).sp = s.sp := rfl
@[simp] theorem State.refresh_pc (s : State) : (s.refresh).pc = s.pc := rfl
@[simp] theorem State.refresh_wz (s : State) : (s.refresh).wz = s.wz := rfl
@[simp] theorem State.refresh_i (s : State) : (s.refresh).i = s.i := rfl
@[simp] theorem State.refresh_r (s : State) : (s.refresh).r = refreshNext s.r := rfl
@[simp] theorem State.refresh_iff1 (s : State) : (s.refresh).iff1 = s.iff1 := rfl
@[simp] theorem State.refresh_iff2 (s : State) : (s.refresh).iff2 = s.iff2 := rfl
@[simp] theorem State.refresh_im (s : State) : (s.refresh).im = s.im := rfl
@[simp] theorem State.refresh_resetSig (s : State) : (s.refresh).resetSig = s.resetSig := rfl
@[simp] theorem State.refresh_halted (s : State) : (s.refresh).halted = s.halted := rfl
@[simp] theorem State.refresh_nmi (s : State) : (s.refresh).nmi = s.nmi := rfl
@[simp] theorem State.refresh_int (s : State) : (s.refresh).int = s.int := rfl
@[simp] theorem State.refresh_dec (s : State) : (s.refresh).dec = s.dec := rfl
@[simp] theorem State.refresh_intBlocked (s : State) : (s.refresh).intBlocked = s.intBlocked := rfl
@[simp] theorem State.refresh_opcode (s : State) : (s.refresh).opcode = s.opcode := rfl
@[simp] theorem State.refresh_instrBytes (s : State) : (s.refresh).instrBytes = s.instrBytes := rfl
@[simp] theorem State.refresh_instrStart (s : State) : (s.refresh).instrStart = s.instrStart := rfl
@[simp] theorem State.refresh_prevPC (s : State) : (s.refresh).prevPC = s.prevPC := rfl
@[simp] theorem State.refresh_ticks (s : State) : (s.refresh).ticks = s.ticks := rfl
@[simp] theorem State.refresh_mem (s : State) : (s.refresh).mem = s.mem := rfl
@[simp] theorem State.refresh_deviceCalls (s : State) : (s.refresh).deviceCalls = s.deviceCalls := rfl
@[simp] theorem State.refresh_portDraws (s : State) : (s.refresh).portDraws = s.portDraws := rfl
@[simp] theorem State.refresh_cfg (s : State) : (s.refresh).cfg = s.cfg := rfl
@[simp] theorem State.refresh_read (s : State) (x : Word) : (s.refresh).read x = s.read x := rfl
@[simp] theorem State.refresh_portIn (s : State) (x : Word) : (s.refresh).portIn x = s.portIn x := rfl

/-! `State.tick` -/

@[simp] theorem State.tick_af (s : State) (n : Nat) : (s.tick n).af = s.af := rfl
@[simp] theorem State.tick_bc (s : State) (n : Nat) : (s.tick n).bc = s.bc := rfl
@[simp] theorem State.tick_de (s : State) (n : Nat) : (s.tick n).de = s.de := rfl
@[simp] theorem State.tick_hl (s : State) (n : Nat) : (s.tick n).hl = s.hl := rfl
@[simp] theorem State.tick_afAlt (s : State) (n : Nat) : (s.tick n).afAlt = s.afAlt := rfl
@[simp] theorem State.tick_bcAlt (s : State) (n : Nat) : (s.tick n).bcAlt = s.bcAlt := rfl
@[simp] theorem State.tick_deAlt (s : State) (n : Nat) : (s.tick n).deAlt = s.deAlt := rfl
@[simp] theorem State.tick_hlAlt (s : State) (n : Nat) : (s.tick n).hlAlt = s.hlAlt := rfl
@[simp] theorem State.tick_ix (s : State) (n : Nat) : (s.tick n).ix = s.ix := rfl
@[simp] theorem State.tick_iy (s : State) (n : Nat) : (s.tick n).iy = s.iy := rfl
@[simp] theorem State.tick_sp (s : State) (n : Nat) : (s.tick n).sp = s.sp := rfl
@[simp] theorem State.tick_pc (s : State) (n : Nat) : (s.tick n).pc = s.pc := rfl
@[simp] theorem State.tick_wz (s : State) (n : Nat) : (s.tick n).wz = s.wz := rfl
@[simp] theorem State.tick_i (s : State) (n : Nat) : (s.tick n).i = s.i := rfl
@[simp] theorem State.tick_r (s : State) (n : Nat) : (s.tick n).r = s.r := rfl
@[simp] theorem State.tick_iff1 (s : State) (n : Nat) : (s.tick n).iff1 = s.iff1 := rfl
@[simp] theorem State.tick_iff2 (s : State) (n : Nat) : (s.tick n).iff2 = s.iff2 := rfl
@[simp] theorem State.tick_im (s : State) (n : Nat) : (s.tick n).im = s.im := rfl
@[simp] theorem State.tick_resetSig (s : State) (n : Nat) : (s.tick n).resetSig = s.resetSig := rfl
@[simp] theorem State.tick_halted (s : State) (n : Nat) : (s.tick n).halted = s.halted := rfl
@[simp] theorem State.tick_nmi (s : State) (n : Nat) : (s.tick n).nmi = s.nmi := rfl
@[simp] theorem State.tick_int (s : State) (n : Nat) : (s.tick n).int = s.int := rfl
@[simp] theorem State.tick_dec (s : State) (n : Nat) : (s.tick n).dec = s.dec := rfl
@[simp] theorem State.tick_intBlocked (s : State) (n : Nat) : (s.tick n).intBlocked = s.intBlocked := rfl
@[simp] theorem State.tick_opcode (s : State) (n : Nat) : (s.tick n).opcode = s.opcode := rfl
@[simp] theorem State.tick_instrBytes (s : State) (n : Nat) : (s.tick n).instrBytes = s.instrBytes := rfl
@[simp] theorem State.tick_instrStart (s : State) (n : Nat) : (s.tick n).instrStart = s.instrStart := rfl
@[simp] theorem State.tick_prevPC (s : State) (n : Nat) : (s.tick n).prevPC = s.prevPC := rfl
@[simp] theorem State.tick_ticks (s : State) (n : Nat) : (s.tick n).ticks = s.ticks + n := rfl
@[simp] theorem State.tick_mem (s : State) (n : Nat) : (s.tick n).mem = s.mem := rfl
@[simp] theorem State.tick_deviceCalls (s : State) (n : Nat) : (s.tick n).deviceCalls = s.deviceCalls := rfl
@[simp] theorem State.tick_portDraws (s : State) (n : Nat) : (s.tick n).portDraws = s.portDraws := rfl
@[simp] theorem State.tick_cfg (s : State) (n : Nat) : (s.tick n).cfg = s.cfg := rfl
@[simp] theorem State.tick_read (s : State) (n : Nat) (x : Word) : (s.tick n).read x = s.read x := rfl
@[simp] theorem State.tick_portIn (s : State) (n : Nat) (x : Word) : (s.tick n).portIn x = s.portIn x := rfl

/-! `State.charge` -/

@[simp] theorem State.charge_af (s : State) (n k : Nat) : (s.charge n k).af = s.af := rfl
@[simp] theorem State.charge_bc (s : State) (n k : Nat) : (s.charge n k).bc = s.bc := rfl
@[simp] theorem State.charge_de (s : State) (n k : Nat) : (s.charge n k).de = s.de := rfl
@[simp] theorem State.charge_hl (s : State) (n k : Nat) : (s.charge n k).hl = s.hl := rfl
@[simp] theorem State.charge_afAlt (s : State) (n k : Nat) : (s.charge n k).afAlt = s.afAlt := rfl
@[simp] theorem State.charge_bcAlt (s : State) (n k : Nat) : (s.charge n k).bcAlt = s.bcAlt := rfl
@[simp] theorem State.charge_deAlt (s : State) (n k : Nat) : (s.charge n k).deAlt = s.deAlt := rfl
@[simp] theorem State.charge_hlAlt (s : State) (n k : Nat) : (s.charge n k).hlAlt = s.hlAlt := rfl
@[simp] theorem State.charge_ix (s : State) (n k : Nat) : (s.charge n k).ix = s.ix := rfl
@[simp] theorem State.charge_iy (s : State) (n k : Nat) : (s.charge n k).iy = s.iy := rfl
@[simp] theorem State.charge_sp (s : State) (n k : Nat) : (s.charge n k).sp = s.sp := rfl
@[simp] theorem State.charge_pc (s : State) (n k : Nat) : (s.charge n k).pc = s.pc := rfl
@[simp] theorem State.charge_wz (s : State) (n k : Nat) : (s.charge n k).wz = s.wz := rfl
@[simp] theorem State.charge_i (s : State) (n k : Nat) : (s.charge n k).i = s.i := rfl
@[simp] theorem State.charge_r (s : State) (n k : Nat) : (s.charge n k).r = s.r := rfl
@[simp] theorem State.charge_iff1 (s : State) (n k : Nat) : (s.charge n k).iff1 = s.iff1 := rfl
@[simp] theorem State.charge_iff2 (s : State) (n k : Nat) : (s.charge n k).iff2 = s.iff2 := rfl
@[simp] theorem State.charge_im (s : State) (n k : Nat) : (s.charge n k).im = s.im := rfl
@[simp] theorem State.charge_resetSig (s : State) (n k : Nat) : (s.charge n k).resetSig = s.resetSig := rfl
@[simp] theorem State.charge_halted (s : State) (n k : Nat) : (s.charge n k).halted = s.halted := rfl
@[simp] theorem State.charge_nmi (s : State) (n k : Nat) : (s.charge n k).nmi = s.nmi := rfl
@[simp] theorem State.charge_int (s : State) (n k : Nat) : (s.charge n k).int = s.int := rfl
@[simp] theorem State.charge_dec (s : State) (n k : Nat) : (s.charge n k).dec = s.dec := rfl
@[simp] theorem State.charge_intBlocked (s : State) (n k : Nat) : (s.charge n k).intBlocked = s.intBlocked := rfl
@[simp] theorem State.charge_opcode (s : State) (n k : Nat) : (s.charge n k).opcode = s.opcode := rfl
@[simp] theorem State.charge_instrBytes (s : State) (n k : Nat) : (s.charge n k).instrBytes = s.instrBytes := rfl
@[simp] theorem State.charge_instrStart (s : State) (n k : Nat) : (s.charge n k).instrStart = s.instrStart := rfl
@[simp] theorem State.charge_prevPC (s : State) (n k : Nat) : (s.charge n k).prevPC = s.prevPC := rfl
@[simp] theorem State.charge_ticks (s : State) (n k : Nat) : (s.charge n k).ticks = s.ticks + (n - 4 * k) := rfl
@[simp] theorem State.charge_mem (s : State) (n k : Nat) : (s.charge n k).mem = s.mem := rfl
@[simp] theorem State.charge_deviceCalls (s : State) (n k : Nat) : (s.charge n k).deviceCalls = s.deviceCalls := rfl
@[simp] theorem State.charge_portDraws (s : State) (n k : Nat) : (s.charge n k).portDraws = s.portDraws := rfl
@[simp] theorem State.charge_cfg (s : State) (n k : Nat) : (s.charge n k).cfg = s.cfg := rfl
@[simp] theorem State.charge_read (s : State) (n k : Nat) (x : Word) : (s.charge n k).read x = s.read x := rfl
@[simp] theorem State.charge_portIn (s : State) (n k : Nat) (x : Word) : (s.charge n k).portIn x = s.portIn x := rfl

/-! `State.called` -/

@[simp] theorem State.called_af (s : State) (c : DeviceCall) : (s.called c).af = s.af := rfl
@[simp] theorem State.called_bc (s : State) (c : DeviceCall) : (s.called c).bc = s.bc := rfl
@[simp] theorem State.called_de (s : State) (c : DeviceCall) : (s.called c).de = s.de := rfl
@[simp] theorem State.called_hl (s : State) (c : DeviceCall) : (s.called c).hl = s.hl := rfl
@[simp] theorem State.called_afAlt (s : State) (c : DeviceCall) : (s.called c).afAlt = s.afAlt := rfl
@[simp] theorem State.called_bcAlt (s : State) (c : DeviceCall) : (s.called c).bcAlt = s.bcAlt := rfl
@[simp] theorem State.called_deAlt (s : State) (c : DeviceCall) : (s.called c).deAlt = s.deAlt := rfl
@[simp] theorem State.called_hlAlt (s : State) (c : DeviceCall) : (s.called c).hlAlt = s.hlAlt := rfl
@[simp] theorem State.called_ix (s : State) (c : DeviceCall) : (s.called c).ix = s.ix := rfl
@[simp] theorem State.called_iy (s : State) (c : DeviceCall) : (s.called c).iy = s.iy := rfl
@[simp] theorem State.called_sp (s : State) (c : DeviceCall) : (s.called c).sp = s.sp := rfl
@[simp] theorem State.called_pc (s : State) (c : DeviceCall) : (s.called c).pc = s.pc := rfl
@[simp] theorem State.called_wz (s : State) (c : DeviceCall) : (s.called c).wz = s.wz := rfl
@[simp] theorem State.called_i (s : State) (c : DeviceCall) : (s.called c).i = s.i := rfl
@[simp] theorem State.called_r (s : State) (c : DeviceCall) : (s.called c).r = s.r := rfl
@[simp] theorem State.called_iff1 (s : State) (c : DeviceCall) : (s.called c).iff1 = s.iff1 := rfl
@[simp] theorem State.called_iff2 (s : State) (c : DeviceCall) : (s.called c).iff2 = s.iff2 := rfl
@[simp] theorem State.called_im (s : State) (c : DeviceCall) : (s.called c).im = s.im := rfl
@[simp] theorem State.called_resetSig (s : State) (c : DeviceCall) : (s.called c).resetSig = s.resetSig := rfl
@[simp] theorem State.called_halted (s : State) (c : DeviceCall) : (s.called c).halted = s.halted := rfl
@[simp] theorem State.called_nmi (s : State) (c : DeviceCall) : (s.called c).nmi = s.nmi := rfl
@[simp] theorem State.called_int (s : State) (c : DeviceCall) : (s.called c).int = s.int := rfl
@[simp] theorem State.called_dec (s : State) (c : DeviceCall) : (s.called c).dec = s.dec := rfl
@[simp] theorem State.called_intBlocked (s : State) (c : DeviceCall) : (s.called c).intBlocked = s.intBlocked := rfl
@[simp] theorem State.called_opcode (s : State) (c : DeviceCall) : (s.called c).opcode = s.opcode := rfl
@[simp] theorem State.called_instrBytes (s : State) (c : DeviceCall) : (s.called c).instrBytes = s.instrBytes := rfl
@[simp] theorem State.called_instrStart (s : State) (c : DeviceCall) : (s.called c).instrStart = s.instrStart := rfl
@[simp] theorem State.called_prevPC (s : State) (c : DeviceCall) : (s.called c).prevPC = s.prevPC := rfl
@[simp] theorem State.called_ticks (s : State) (c : DeviceCall) : (s.called c).ticks = s.ticks := rfl
@[simp] theorem State.called_mem (s : State) (c : DeviceCall) : (s.called c).mem = s.mem := rfl
@[simp] theorem State.called_deviceCalls (s : State) (c : DeviceCall) : (s.called c).deviceCalls = c :: s.deviceCalls := rfl
@[simp] theorem State.called_portDraws (s : State) (c : DeviceCall) : (s.called c).portDraws = s.portDraws := rfl
@[simp] theorem State.called_cfg (s : State) (c : DeviceCall) : (s.called c).cfg = s.cfg := rfl

/-! `State.afterRead` -/

@[simp] theorem State.afterRead_af (s : State) (a : Word) : (s.afterRead a).af = s.af := rfl
@[simp] theorem State.afterRead_bc (s : State) (a : Word) : (s.afterRead a).bc = s.bc := rfl
@[simp] theorem State.afterRead_de (s : State) (a : Word) : (s.afterRead a).de = s.de := rfl
@[simp] theorem State.afterRead_hl (s : State) (a : Word) : (s.afterRead a).hl = s.hl := rfl
@[simp] theorem State.afterRead_afAlt (s : State) (a : Word) : (s.afterRead a).afAlt = s.afAlt := rfl
@[simp] theorem State.afterRead_bcAlt (s : State) (a : Word) : (s.afterRead a).bcAlt = s.bcAlt := rfl
@[simp] theorem State.afterRead_deAlt (s : State) (a : Word) : (s.afterRead a).deAlt = s.deAlt := rfl
@[simp] theorem State.afterRead_hlAlt (s : State) (a : Word) : (s.afterRead a).hlAlt = s.hlAlt := rfl
@[simp] theorem State.afterRead_ix (s : State) (a : Word) : (s.afterRead a).ix = s.ix := rfl
@[simp] theorem State.afterRead_iy (s : State) (a : Word) : (s.afterRead a).iy = s.iy := rfl
@[simp] theorem State.afterRead_sp (s : State) (a : Word) : (s.afterRead a).sp = s.sp := rfl
@[simp] theorem State.afterRead_pc (s : State) (a : Word) : (s.afterRead a).pc = s.pc := rfl
@[simp] theorem State.afterRead_wz (s : State) (a : Word) : (s.afterRead a).wz = s.wz := rfl
@[simp] theorem State.afterRead_i (s : State) (a : Word) : (s.afterRead a).i = s.i := rfl
@[simp] theorem State.afterRead_r (s : State) (a : Word) : (s.afterRead a).r = s.r := rfl
@[simp] theorem State.afterRead_iff1 (s : State) (a : Word) : (s.afterRead a).iff1 = s.iff1 := rfl
@[simp] theorem State.afterRead_iff2 (s : State) (a : Word) : (s.afterRead a).iff2 = s.iff2 := rfl
@[simp] theorem State.afterRead_im (s : State) (a : Word) : (s.afterRead a).im = s.im := rfl
@[simp] theorem State.afterRead_resetSig (s : State) (a : Word) : (s.afterRead a).resetSig = s.resetSig := rfl
@[simp] theorem State.afterRead_halted (s : State) (a : Word) : (s.afterRead a).halted = s.halted := rfl
@[simp] theorem State.afterRead_nmi (s : State) (a : Word) : (s.afterRead a).nmi = s.nmi := rfl
@[simp] theorem State.afterRead_int (s : State) (a : Word) : (s.afterRead a).int = s.int := rfl
@[simp] theorem State.afterRead_dec (s : State) (a : Word) : (s.afterRead a).dec = s.dec := rfl
@[simp] theorem State.afterRead_intBlocked (s : State) (a : Word) : (s.afterRead a).intBlocked = s.intBlocked := rfl
@[simp] theorem State.afterRead_opcode (s : State) (a : Word) : (s.afterRead a).opcode = s.opcode := rfl
@[simp] theorem State.afterRead_instrBytes (s : State) (a : Word) : (s.afterRead a).instrBytes = s.instrBytes := rfl
@[simp] theorem State.afterRead_instrStart (s : State) (a : Word) : (s.afterRead a).instrStart = s.instrStart := rfl
@[simp] theorem State.afterRead_prevPC (s : State) (a : Word) : (s.afterRead a).prevPC = s.prevPC := rfl
@[simp] theorem State.afterRead_ticks (s : State) (a : Word) : (s.afterRead a).ticks = s.ticks := rfl
@[simp] theorem State.afterRead_mem (s : State) (a : Word) : (s.afterRead a).mem = s.mem := rfl
@[simp] theorem State.afterRead_deviceCalls (s : State) (a : Word) : (s.afterRead a).deviceCalls = .memRead a (s.read a) :: s.deviceCalls := rfl
@[simp] theorem State.afterRead_portDraws (s : State) (a : Word) : (s.afterRead a).portDraws = s.portDraws := rfl
@[simp] theorem State.afterRead_cfg (s : State) (a : Word) : (s.afterRead a).cfg = s.cfg := rfl

/-! `State.afterRead16` -/

@[simp] theorem State.afterRead16_af (s : State) (a : Word) : (s.afterRead16 a).af = s.af := rfl
@[simp] theorem State.afterRead16_bc (s : State) (a : Word) : (s.afterRead16 a).bc = s.bc := rfl
@[simp] theorem State.afterRead16_de (s : State) (a : Word) : (s.afterRead16 a).de = s.de := rfl
@[simp] theorem State.afterRead16_hl (s : State) (a : Word) : (s.afterRead16 a).hl = s.hl := rfl
@[simp] theorem State.afterRead16_afAlt (s : State) (a : Word) : (s.afterRead16 a).afAlt = s.afAlt := rfl
@[simp] theorem State.afterRead16_bcAlt (s : State) (a : Word) : (s.afterRead16 a).bcAlt = s.bcAlt := rfl
@[simp] theorem State.afterRead16_deAlt (s : State) (a : Word) : (s.afterRead16 a).deAlt = s.deAlt := rfl
@[simp] theorem State.afterRead16_hlAlt (s : State) (a : Word) : (s.afterRead16 a).hlAlt = s.hlAlt := rfl
@[simp] theorem State.afterRead16_ix (s : State) (a : Word) : (s.afterRead16 a).ix = s.ix := rfl
@[simp] theorem State.afterRead16_iy (s : State) (a : Word) : (s.afterRead16 a).iy = s.iy := rfl
@[simp] theorem State.afterRead16_sp (s : State) (a : Word) : (s.afterRead16 a).sp = s.sp := rfl
@[simp] theorem State.afterRead16_pc (s : State) (a : Word) : (s.afterRead16 a).pc = s.pc := rfl
@[simp] theorem State.afterRead16_wz (s : State) (a : Word) : (s.afterRead16 a).wz = s.wz := rfl
@[simp] theorem State.afterRead16_i (s : State) (a : Word) : (s.afterRead16 a).i = s.i := rfl
@[simp] theorem State.afterRead16_r (s : State) (a : Word) : (s.afterRead16 a).r = s.r := rfl
@[simp] theorem State.afterRead16_iff1 (s : State) (a : Word) : (s.afterRead16 a).iff1 = s.iff1 := rfl
@[simp] theorem State.afterRead16_iff2 (s : State) (a : Word) : (s.afterRead16 a).iff2 = s.iff2 := rfl
@[simp] theorem State.afterRead16_im (s : State) (a : Word) : (s.afterRead16 a).im = s.im := rfl
@[simp] theorem State.afterRead16_resetSig (s : State) (a : Word) : (s.afterRead16 a).resetSig = s.resetSig := rfl
@[simp] theorem State.afterRead16_halted (s : State) (a : Word) : (s.afterRead16 a).halted = s.halted := rfl
@[simp] theorem State.afterRead16_nmi (s : State) (a : Word) : (s.afterRead16 a).nmi = s.nmi := rfl
@[simp] theorem State.afterRead16_int (s : State) (a : Word) : (s.afterRead16 a).int = s.int := rfl
@[simp] theorem State.afterRead16_dec (s : State) (a : Word) : (s.afterRead16 a).dec = s.dec := rfl
@[simp] theorem State.afterRead16_intBlocked (s : State) (a : Word) : (s.afterRead16 a).intBlocked = s.intBlocked := rfl
@[simp] theorem State.afterRead16_opcode (s : State) (a : Word) : (s.afterRead16 a).opcode = s.opcode := rfl
@[simp] theorem State.afterRead16_instrBytes (s : State) (a : Word) : (s.afterRead16 a).instrBytes = s.instrBytes := rfl
@[simp] theorem State.afterRead16_instrStart (s : State) (a : Word) : (s.afterRead16 a).instrStart = s.instrStart := rfl
@[simp] theorem State.afterRead16_prevPC (s : State) (a : Word) : (s.afterRead16 a).prevPC = s.prevPC := rfl
@[simp] theorem State.afterRead16_ticks (s : State) (a : Word) : (s.afterRead16 a).ticks = s.ticks := rfl
@[simp] theorem State.afterRead16_mem (s : State) (a : Word) : (s.afterRead16 a).mem = s.mem := rfl
@[simp] theorem State.afterRead16_deviceCalls (s : State) (a : Word) : (s.afterRead16 a).deviceCalls = .memRead (a + 1) ((s.afterRead a).read (a + 1)) :: .memRead a (s.read a) :: s.deviceCalls := rfl
@[simp] theorem State.afterRead16_portDraws (s : State) (a : Word) : (s.afterRead16 a).portDraws = s.portDraws := rfl
@[simp] theorem State.afterRead16_cfg (s : State) (a : Word) : (s.afterRead16 a).cfg = s.cfg := rfl

/-! `State.popped` -/

@[simp] theorem State.popped_af (s : State) : (s.popped).af = s.af := rfl
@[simp] theorem State.popped_bc (s : State) : (s.popped).bc = s.bc := rfl
@[simp] theorem State.popped_de (s : State) : (s.popped).de = s.de := rfl
@[simp] theorem State.popped_hl (s : State) : (s.popped).hl = s.hl := rfl
@[simp] theorem State.popped_afAlt (s : State) : (s.popped).afAlt = s.afAlt := rfl
@[simp] theorem State.popped_bcAlt (s : State) : (s.popped).bcAlt = s.bcAlt := rfl
@[simp] theorem State.popped_deAlt (s : State) : (s.popped).deAlt = s.deAlt := rfl
@[simp] theorem State.popped_hlAlt (s : State) : (s.popped).hlAlt = s.hlAlt := rfl
@[simp] theorem State.popped_ix (s : State) : (s.popped).ix = s.ix := rfl
@[simp] theorem State.popped_iy (s : State) : (s.popped).iy = s.iy := rfl
@[simp] theorem State.popped_sp (s : State) : (s.popped).sp = s.sp + 2 := rfl
@[simp] theorem State.popped_pc (s : State) : (s.popped).pc = s.pc := rfl
@[simp] theorem State.popped_wz (s : State) : (s.popped).wz = s.wz := rfl
@[simp] theorem State.popped_i (s : State) : (s.popped).i = s.i := rfl
@[simp] theorem State.popped_r (s : State) : (s.popped).r = s.r := rfl
@[simp] theorem State.popped_iff1 (s : State) : (s.popped).iff1 = s.iff1 := rfl
@[simp] theorem State.popped_iff2 (s : State) : (s.popped).iff2 = s.iff2 := rfl
@[simp] theorem State.popped_im (s : State) : (s.popped).im = s.im := rfl
@[simp] theorem State.popped_resetSig (s : State) : (s.popped).resetSig = s.resetSig := rfl
@[simp] theorem State.popped_halted (s : State) : (s.popped).halted = s.halted := rfl
@[simp] theorem State.popped_nmi (s : State) : (s.popped).nmi = s.nmi := rfl
@[simp] theorem State.popped_int (s : State) : (s.popped).int = s.int := rfl
@[simp] theorem State.popped_dec (s : State) : (s.popped).dec = s.dec := rfl
@[simp] theorem State.popped_intBlocked (s : State) : (s.popped).intBlocked = s.intBlocked := rfl
@[simp] theorem State.popped_opcode (s : State) : (s.popped).opcode = s.opcode := rfl
@[simp] theorem State.popped_instrBytes (s : State) : (s.popped).instrBytes = s.instrBytes := rfl
@[simp] theorem State.popped_instrStart (s : State) : (s.popped).instrStart = s.instrStart := rfl
@[simp] theorem State.popped_prevPC (s : State) : (s.popped).prevPC = s.prevPC := rfl
@[simp] theorem State.popped_ticks (s : State) : (s.popped).ticks = s.ticks := rfl
@[simp] theorem State.popped_mem (s : State) : (s.popped).mem = s.mem := rfl
@[simp] theorem State.popped_deviceCalls (s : State) : (s.popped).deviceCalls = (s.afterRead16 s.sp).deviceCalls := rfl
@[simp] theorem State.popped_portDraws (s : State) : (s.popped).portDraws = s.portDraws := rfl
@[simp] theorem State.popped_cfg (s : State) : (s.popped).cfg = s.cfg := rfl

/-! `State.write` -/

@[simp] theorem State.write_af (s : State) (a : Word) (v : Byte) : (s.write a v).af = s.af := rfl
@[simp] theorem State.write_bc (s : State) (a : Word) (v : Byte) : (s.write a v).bc = s.bc := rfl
@[simp] theorem State.write_de (s : State) (a : Word) (v : Byte) : (s.write a v).de = s.de := rfl
@[simp] theorem State.write_hl (s : State) (a : Word) (v : Byte) : (s.write a v).hl = s.hl := rfl
@[simp] theorem State.write_afAlt (s : State) (a : Word) (v : Byte) : (s.write a v).afAlt = s.afAlt := rfl
@[simp] theorem State.write_bcAlt (s : State) (a : Word) (v : Byte) : (s.write a v).bcAlt = s.bcAlt := rfl
@[simp] theorem State.write_deAlt (s : State) (a : Word) (v : Byte) : (s.write a v).deAlt = s.deAlt := rfl
@[simp] theorem State.write_hlAlt (s : State) (a : Word) (v : Byte) : (s.write a v).hlAlt = s.hlAlt := rfl
@[simp] theorem State.write_ix (s : State) (a : Word) (v : Byte) : (s.write a v).ix = s.ix := rfl
@[simp] theorem State.write_iy (s : State) (a : Word) (v : Byte) : (s.write a v).iy = s.iy := rfl
@[simp] theorem State.write_sp (s : State) (a : Word) (v : Byte) : (s.write a v).sp = s.sp := rfl
@[simp] theorem State.write_pc (s : State) (a : Word) (v : Byte) : (s.write a v).pc = s.pc := rfl
@[simp] theorem State.write_wz (s : State) (a : Word) (v : Byte) : (s.write a v).wz = s.wz := rfl
@[simp] theorem State.write_i (s : State) (a : Word) (v : Byte) : (s.write a v).i = s.i := rfl
@[simp] theorem State.write_r (s : State) (a : Word) (v : Byte) : (s.write a v).r = s.r := rfl
@[simp] theorem State.write_iff1 (s : State) (a : Word) (v : Byte) : (s.write a v).iff1 = s.iff1 := rfl
@[simp] theorem State.write_iff2 (s : State) (a : Word) (v : Byte) : (s.write a v).iff2 = s.iff2 := rfl
@[simp] theorem State.write_im (s : State) (a : Word) (v : Byte) : (s.write a v).im = s.im := rfl
@[simp] theorem State.write_resetSig (s : State) (a : Word) (v : Byte) : (s.write a v).resetSig = s.resetSig := rfl
@[simp] theorem State.write_halted (s : State) (a : Word) (v : Byte) : (s.write a v).halted = s.halted := rfl
@[simp] theorem State.write_nmi (s : State) (a : Word) (v : Byte) : (s.write a v).nmi = s.nmi := rfl
@[simp] theorem State.write_int (s : State) (a : Word) (v : Byte) : (s.write a v).int = s.int := rfl
@[simp] theorem State.write_dec (s : State) (a : Word) (v : Byte) : (s.write a v).dec = s.dec := rfl
@[simp] theorem State.write_intBlocked (s : State) (a : Word) (v : Byte) : (s.write a v).intBlocked = s.intBlocked := rfl
@[simp] theorem State.write_opcode (s : State) (a : Word) (v : Byte) : (s.write a v).opcode = s.opcode := rfl
@[simp] theorem State.write_instrBytes (s : State) (a : Word) (v : Byte) : (s.write a v).instrBytes = s.instrBytes := rfl
@[simp] theorem State.write_instrStart (s : State) (a : Word) (v : Byte) : (s.write a v).instrStart = s.instrStart := rfl
@[simp] theorem State.write_prevPC (s : State) (a : Word) (v : Byte) : (s.write a v).prevPC = s.prevPC := rfl
@[simp] theorem State.write_ticks (s : State) (a : Word) (v : Byte) : (s.write a v).ticks = s.ticks := rfl
@[simp] theorem State.write_mem (s : State) (a : Word) (v : Byte) : (s.write a v).mem = s.memWith a v := rfl
@[simp] theorem State.write_deviceCalls (s : State) (a : Word) (v : Byte) : (s.write a v).deviceCalls = .memWrite a v :: s.deviceCalls := rfl
@[simp] theorem State.write_portDraws (s : State) (a : Word) (v : Byte) : (s.write a v).portDraws = s.portDraws := rfl
@[simp] theorem State.write_cfg (s : State) (a : Word) (v : Byte) : (s.write a v).cfg = s.cfg := rfl

/-! `State.write16` -/

@[simp] theorem State.write16_af (s : State) (a v : Word) : (s.write16 a v).af = s.af := rfl
@[simp] theorem State.write16_bc (s : State) (a v : Word) : (s.write16 a v).bc = s.bc := rfl
@[simp] theorem State.write16_de (s : State) (a v : Word) : (s.write16 a v).de = s.de := rfl
@[simp] theorem State.write16_hl (s : State) (a v : Word) : (s.write16 a v).hl = s.hl := rfl
@[simp] theorem State.write16_afAlt (s : State) (a v : Word) : (s.write16 a v).afAlt = s.afAlt := rfl
@[simp] theorem State.write16_bcAlt (s : State) (a v : Word) : (s.write16 a v).bcAlt = s.bcAlt := rfl
@[simp] theorem State.write16_deAlt (s : State) (a v : Word) : (s.write16 a v).deAlt = s.deAlt := rfl
@[simp] theorem State.write16_hlAlt (s : State) (a v : Word) : (s.write16 a v).hlAlt = s.hlAlt := rfl
@[simp] theorem State.write16_ix (s : State) (a v : Word) : (s.write16 a v).ix = s.ix := rfl
@[simp] theorem State.write16_iy (s : State) (a v : Word) : (s.write16 a v).iy = s.iy := rfl
@[simp] theorem State.write16_sp (s : State) (a v : Word) : (s.write16 a v).sp = s.sp := rfl
@[simp] theorem State.write16_pc (s : State) (a v : Word) : (s.write16 a v).pc = s.pc := rfl
@[simp] theorem State.write16_wz (s : State) (a v : Word) : (s.write16 a v).wz = s.wz := rfl
@[simp] theorem State.write16_i (s : State) (a v : Word) : (s.write16 a v).i = s.i := rfl
@[simp] theorem State.write16_r (s : State) (a v : Word) : (s.write16 a v).r = s.r := rfl
@[simp] theorem State.write16_iff1 (s : State) (a v : Word) : (s.write16 a v).iff1 = s.iff1 := rfl
@[simp] theorem State.write16_iff2 (s : State) (a v : Word) : (s.write16 a v).iff2 = s.iff2 := rfl
@[simp] theorem State.write16_im (s : State) (a v : Word) : (s.write16 a v).im = s.im := rfl
@[simp] theorem State.write16_resetSig (s : State) (a v : Word) : (s.write16 a v).resetSig = s.resetSig := rfl
@[simp] theorem State.write16_halted (s : State) (a v : Word) : (s.write16 a v).halted = s.halted := rfl
@[simp] theorem State.write16_nmi (s : State) (a v : Word) : (s.write16 a v).nmi = s.nmi := rfl
@[simp] theorem State.write16_int (s : State) (a v : Word) : (s.write16 a v).int = s.int := rfl
@[simp] theorem State.write16_dec (s : State) (a v : Word) : (s.write16 a v).dec = s.dec := rfl
@[simp] theorem State.write16_intBlocked (s : State) (a v : Word) : (s.write16 a v).intBlocked = s.intBlocked := rfl
@[simp] theorem State.write16_opcode (s : State) (a v : Word) : (s.write16 a v).opcode = s.opcode := rfl
@[simp] theorem State.write16_instrBytes (s : State) (a v : Word) : (s.write16 a v).instrBytes = s.instrBytes := rfl
@[simp] theorem State.write16_instrStart (s : State) (a v : Word) : (s.write16 a v).instrStart = s.instrStart := rfl
@[simp] theorem State.write16_prevPC (s : State) (a v : Word) : (s.write16 a v).prevPC = s.prevPC := rfl
@[simp] theorem State.write16_ticks (s : State) (a v : Word) : (s.write16 a v).ticks = s.ticks := rfl
@[simp] theorem State.write16_deviceCalls (s : State) (a v : Word) : (s.write16 a v).deviceCalls = .memWrite (a + 1) (hiByte v) :: .memWrite a (loByte v) :: s.deviceCalls := rfl
@[simp] theorem State.write16_portDraws (s : State) (a v : Word) : (s.write16 a v).portDraws = s.portDraws := rfl
@[simp] theorem State.write16_cfg (s : State) (a v : Word) : (s.write16 a v).cfg = s.cfg := rfl

/-! `State.push16` -/

@[simp] theorem State.push16_af (s : State) (v : Word) : (s.push16 v).af = s.af := rfl
@[simp] theorem State.push16_bc (s : State) (v : Word) : (s.push16 v).bc = s.bc := rfl
@[simp] theorem State.push16_de (s : State) (v : Word) : (s.push16 v).de = s.de := rfl
@[simp] theorem State.push16_hl (s : State) (v : Word) : (s.push16 v).hl = s.hl := rfl
@[simp] theorem State.push16_afAlt (s : State) (v : Word) : (s.push16 v).afAlt = s.afAlt := rfl
@[simp] theorem State.push16_bcAlt (s : State) (v : Word) : (s.push16 v).bcAlt = s.bcAlt := rfl
@[simp] theorem State.push16_deAlt (s : State) (v : Word) : (s.push16 v).deAlt = s.deAlt := rfl
@[simp] theorem State.push16_hlAlt (s : State) (v : Word) : (s.push16 v).hlAlt = s.hlAlt := rfl
@[simp] theorem State.push16_ix (s : State) (v : Word) : (s.push16 v).ix = s.ix := rfl
@[simp] theorem State.push16_iy (s : State) (v : Word) : (s.push16 v).iy = s.iy := rfl
@[simp] theorem State.push16_sp (s : State) (v : Word) : (s.push16 v).sp = s.sp - 2 := rfl
@[simp] theorem State.push16_pc (s : State) (v : Word) : (s.push16 v).pc = s.pc := rfl
@[simp] theorem State.push16_wz (s : State) (v : Word) : (s.push16 v).wz = s.wz := rfl
@[simp] theorem State.push16_i (s : State) (v : Word) : (s.push16 v).i = s.i := rfl
@[simp] theorem State.push16_r (s : State) (v : Word) : (s.push16 v).r = s.r := rfl
@[simp] theorem State.push16_iff1 (s : State) (v : Word) : (s.push16 v).iff1 = s.iff1 := rfl
@[simp] theorem State.push16_iff2 (s : State) (v : Word) : (s.push16 v).iff2 = s.iff2 := rfl
@[simp] theorem State.push16_im (s : State) (v : Word) : (s.push16 v).im = s.im := rfl
@[simp] theorem State.push16_resetSig (s : State) (v : Word) : (s.push16 v).resetSig = s.resetSig := rfl
@[simp] theorem State.push16_halted (s : State) (v : Word) : (s.push16 v).halted = s.halted := rfl
@[simp] theorem State.push16_nmi (s : State) (v : Word) : (s.push16 v).nmi = s.nmi := rfl
@[simp] theorem State.push16_int (s : State) (v : Word) : (s.push16 v).int = s.int := rfl
@[simp] theorem State.push16_dec (s : State) (v : Word) : (s.push16 v).dec = s.dec := rfl
@[simp] theorem State.push16_intBlocked (s : State) (v : Word) : (s.push16 v).intBlocked = s.intBlocked := rfl
@[simp] theorem State.push16_opcode (s : State) (v : Word) : (s.push16 v).opcode = s.opcode := rfl
@[simp] theorem State.push16_instrBytes (s : State) (v : Word) : (s.push16 v).instrBytes = s.instrBytes := rfl
@[simp] theorem State.push16_instrStart (s : State) (v : Word) : (s.push16 v).instrStart = s.instrStart := rfl
@[simp] theorem State.push16_prevPC (s : State) (v : Word) : (s.push16 v).prevPC = s.prevPC := rfl
@[simp] theorem State.push16_ticks (s : State) (v : Word) : (s.push16 v).ticks = s.ticks := rfl
@[simp] theorem State.push16_deviceCalls (s : State) (v : Word) : (s.push16 v).deviceCalls = .memWrite (s.sp - 2) (loByte v) :: .memWrite (s.sp - 1) (hiByte v) :: s.deviceCalls := rfl
@[simp] theorem State.push16_portDraws (s : State) (v : Word) : (s.push16 v).portDraws = s.portDraws := rfl
@[simp] theorem State.push16_cfg (s : State) (v : Word) : (s.push16 v).cfg = s.cfg := rfl

/-! `State.portRead` -/

@[simp] theorem State.portRead_af (s : State) (p : Word) : (s.portRead p).af = s.af := rfl
@[simp] theorem State.portRead_bc (s : State) (p : Word) : (s.portRead p).bc = s.bc := rfl
@[simp] theorem State.portRead_de (s : State) (p : Word) : (s.portRead p).de = s.de := rfl
@[simp] theorem State.portRead_hl (s : State) (p : Word) : (s.portRead p).hl = s.hl := rfl
@[simp] theorem State.portRead_afAlt (s : State) (p : Word) : (s.portRead p).afAlt = s.afAlt := rfl
@[simp] theorem State.portRead_bcAlt (s : State) (p : Word) : (s.portRead p).bcAlt = s.bcAlt := rfl
@[simp] theorem State.portRead_deAlt (s : State) (p : Word) : (s.portRead p).deAlt = s.deAlt := rfl
@[simp] theorem State.portRead_hlAlt (s : State) (p : Word) : (s.portRead p).hlAlt = s.hlAlt := rfl
@[simp] theorem State.portRead_ix (s : State) (p : Word) : (s.portRead p).ix = s.ix := rfl
@[simp] theorem State.portRead_iy (s : State) (p : Word) : (s.portRead p).iy = s.iy := rfl
@[simp] theorem State.portRead_sp (s : State) (p : Word) : (s.portRead p).sp = s.sp := rfl
@[simp] theorem State.portRead_pc (s : State) (p : Word) : (s.portRead p).pc = s.pc := rfl
@[simp] theorem State.portRead_wz (s : State) (p : Word) : (s.portRead p).wz = s.wz := rfl
@[simp] theorem State.portRead_i (s : State) (p : Word) : (s.portRead p).i = s.i := rfl
@[simp] theorem State.portRead_r (s : State) (p : Word) : (s.portRead p).r = s.r := rfl
@[simp] theorem State.portRead_iff1 (s : State) (p : Word) : (s.portRead p).iff1 = s.iff1 := rfl
@[simp] theorem State.portRead_iff2 (s : State) (p : Word) : (s.portRead p).iff2 = s.iff2 := rfl
@[simp] theorem State.portRead_im (s : State) (p : Word) : (s.portRead p).im = s.im := rfl
@[simp] theorem State.portRead_resetSig (s : State) (p : Word) : (s.portRead p).resetSig = s.resetSig := rfl
@[simp] theorem State.portRead_halted (s : State) (p : Word) : (s.portRead p).halted = s.halted := rfl
@[simp] theorem State.portRead_nmi (s : State) (p : Word) : (s.portRead p).nmi = s.nmi := rfl
@[simp] theorem State.portRead_int (s : State) (p : Word) : (s.portRead p).int = s.int := rfl
@[simp] theorem State.portRead_dec (s : State) (p : Word) : (s.portRead p).dec = s.dec := rfl
@[simp] theorem State.portRead_intBlocked (s : State) (p : Word) : (s.portRead p).intBlocked = s.intBlocked := rfl
@[simp] theorem State.portRead_opcode (s : State) (p : Word) : (s.portRead p).opcode = s.opcode := rfl
@[simp] theorem State.portRead_instrBytes (s : State) (p : Word) : (s.portRead p).instrBytes = s.instrBytes := rfl
@[simp] theorem State.portRead_instrStart (s : State) (p : Word) : (s.portRead p).instrStart = s.instrStart := rfl
@[simp] theorem State.portRead_prevPC (s : State) (p : Word) : (s.portRead p).prevPC = s.prevPC := rfl
@[simp] theorem State.portRead_ticks (s : State) (p : Word) : (s.portRead p).ticks = s.ticks := rfl
@[simp] theorem State.portRead_mem (s : State) (p : Word) : (s.portRead p).mem = s.mem := rfl
@[simp] theorem State.portRead_deviceCalls (s : State) (p : Word) : (s.portRead p).deviceCalls = .portRead p (s.portIn p) :: s.deviceCalls := rfl
@[simp] theorem State.portRead_portDraws (s : State) (p : Word) : (s.portRead p).portDraws = s.portDraws + 1 := rfl
@[simp] theorem State.portRead_cfg (s : State) (p : Word) : (s.portRead p).cfg = s.cfg := rfl

/-! `State.portWrite` -/

@[simp] theorem State.portWrite_af (s : State) (p : Word) (v : Byte) : (s.portWrite p v).af = s.af := rfl
@[simp] theorem State.portWrite_bc (s : State) (p : Word) (v : Byte) : (s.portWrite p v).bc = s.bc := rfl
@[simp] theorem State.portWrite_de (s : State) (p : Word) (v : Byte) : (s.portWrite p v).de = s.de := rfl
@[simp] theorem State.portWrite_hl (s : State) (p : Word) (v : Byte) : (s.portWrite p v).hl = s.hl := rfl
@[simp] theorem State.portWrite_afAlt (s : State) (p : Word) (v : Byte) : (s.portWrite p v).afAlt = s.afAlt := rfl
@[simp] theorem State.portWrite_bcAlt (s : State) (p : Word) (v : Byte) : (s.portWrite p v).bcAlt = s.bcAlt := rfl
@[simp] theorem State.portWrite_deAlt (s : State) (p : Word) (v : Byte) : (s.portWrite p v).deAlt = s.deAlt := rfl
@[simp] theorem State.portWrite_hlAlt (s : State) (p : Word) (v : Byte) : (s.portWrite p v).hlAlt = s.hlAlt := rfl
@[simp] theorem State.portWrite_ix (s : State) (p : Word) (v : Byte) : (s.portWrite p v).ix = s.ix := rfl
@[simp] theorem State.portWrite_iy (s : State) (p : Word) (v : Byte) : (s.portWrite p v).iy = s.iy := rfl
@[simp] theorem State.portWrite_sp (s : State) (p : Word) (v : Byte) : (s.portWrite p v).sp = s.sp := rfl
@[simp] theorem State.portWrite_pc (s : State) (p : Word) (v : Byte) : (s.portWrite p v).pc = s.pc := rfl
@[simp] theorem State.portWrite_wz (s : State) (p : Word) (v : Byte) : (s.portWrite p v).wz = s.wz := rfl
@[simp] theorem State.portWrite_i (s : State) (p : Word) (v : Byte) : (s.portWrite p v).i = s.i := rfl
@[simp] theorem State.portWrite_r (s : State) (p : Word) (v : Byte) : (s.portWrite p v).r = s.r := rfl
@[simp] theorem State.portWrite_iff1 (s : State) (p : Word) (v : Byte) : (s.portWrite p v).iff1 = s.iff1 := rfl
@[simp] theorem State.portWrite_iff2 (s : State) (p : Word) (v : Byte) : (s.portWrite p v).iff2 = s.iff2 := rfl
@[simp] theorem State.portWrite_im (s : State) (p : Word) (v : Byte) : (s.portWrite p v).im = s.im := rfl
@[simp] theorem State.portWrite_resetSig (s : State) (p : Word) (v : Byte) : (s.portWrite p v).resetSig = s.resetSig := rfl
@[simp] theorem State.portWrite_halted (s : State) (p : Word) (v : Byte) : (s.portWrite p v).halted = s.halted := rfl
@[simp] theorem State.portWrite_nmi (s : State) (p : Word) (v : Byte) : (s.portWrite p v).nmi = s.nmi := rfl
@[simp] theorem State.portWrite_int (s : State) (p : Word) (v : Byte) : (s.portWrite p v).int = s.int := rfl
@[simp] theorem State.portWrite_dec (s : State) (p : Word) (v : Byte) : (s.portWrite p v).dec = s.dec := rfl
@[simp] theorem State.portWrite_intBlocked (s : State) (p : Word) (v : Byte) : (s.portWrite p v).intBlocked = s.intBlocked := rfl
@[simp] theorem State.portWrite_opcode (s : State) (p : Word) (v : Byte) : (s.portWrite p v).opcode = s.opcode := rfl
@[simp] theorem State.portWrite_instrBytes (s : State) (p : Word) (v : Byte) : (s.portWrite p v).instrBytes = s.instrBytes := rfl
@[simp] theorem State.portWrite_instrStart (s : State) (p : Word) (v : Byte) : (s.portWrite p v).instrStart = s.instrStart := rfl
@[simp] theorem State.portWrite_prevPC (s : State) (p : Word) (v : Byte) : (s.portWrite p v).prevPC = s.prevPC := rfl
@[simp] theorem State.portWrite_ticks (s : State) (p : Word) (v : Byte) : (s.portWrite p v).ticks = s.ticks := rfl
@[simp] theorem State.portWrite_mem (s : State) (p : Word) (v : Byte) : (s.portWrite p v).mem = s.mem := rfl
@[simp] theorem State.portWrite_deviceCalls (s : State) (p : Word) (v : Byte) : (s.portWrite p v).deviceCalls = .portWrite p v :: s.deviceCalls := rfl
@[simp] theorem State.portWrite_portDraws (s : State) (p : Word) (v : Byte) : (s.portWrite p v).portDraws = s.portDraws := rfl
@[simp] theorem State.portWrite_cfg (s : State) (p : Word) (v : Byte) : (s.portWrite p v).cfg = s.cfg := rfl

/-! `State.enterPrefix` -/

@[simp] theorem State.enterPrefix_af (s : State) (d : DecoderState) : (s.enterPrefix d).af = s.af := rfl
@[simp] theorem State.enterPrefix_bc (s : State) (d : DecoderState) : (s.enterPrefix d).bc = s.bc := rfl
@[simp] theorem State.enterPrefix_de (s : State) (d : DecoderState) : (s.enterPrefix d).de = s.de := rfl
@[simp] theorem State.enterPrefix_hl (s : State) (d : DecoderState) : (s.enterPrefix d).hl = s.hl := rfl
@[simp] theorem State.enterPrefix_afAlt (s : State) (d : DecoderState) : (s.enterPrefix d).afAlt = s.afAlt := rfl
@[simp] theorem State.enterPrefix_bcAlt (s : State) (d : DecoderState) : (s.enterPrefix d).bcAlt = s.bcAlt := rfl
@[simp] theorem State.enterPrefix_deAlt (s : State) (d : DecoderState) : (s.enterPrefix d).deAlt = s.deAlt := rfl
@[simp] theorem State.enterPrefix_hlAlt (s : State) (d : DecoderState) : (s.enterPrefix d).hlAlt = s.hlAlt := rfl
@[simp] theorem State.enterPrefix_ix (s : State) (d : DecoderState) : (s.enterPrefix d).ix = s.ix := rfl
@[simp] theorem State.enterPrefix_iy (s : State) (d : DecoderState) : (s.enterPrefix d).iy = s.iy := rfl
@[simp] theorem State.enterPrefix_sp (s : State) (d : DecoderState) : (s.enterPrefix d).sp = s.sp := rfl
@[simp] theorem State.enterPrefix_pc (s : State) (d : DecoderState) : (s.enterPrefix d).pc = s.pc := rfl
@[simp] theorem State.enterPrefix_wz (s : State) (d : DecoderState) : (s.enterPrefix d).wz = s.wz := rfl
@[simp] theorem State.enterPrefix_i (s : State) (d : DecoderState) : (s.enterPrefix d).i = s.i := rfl
@[simp] theorem State.enterPrefix_r (s : State) (d : DecoderState) : (s.enterPrefix d).r = s.r := rfl
@[simp] theorem State.enterPrefix_iff1 (s : State) (d : DecoderState) : (s.enterPrefix d).iff1 = s.iff1 := rfl
@[simp] theorem State.enterPrefix_iff2 (s : State) (d : DecoderState) : (s.enterPrefix d).iff2 = s.iff2 := rfl
@[simp] theorem State.enterPrefix_im (s : State) (d : DecoderState) : (s.enterPrefix d).im = s.im := rfl
@[simp] theorem State.enterPrefix_resetSig (s : State) (d : DecoderState) : (s.enterPrefix d).resetSig = s.resetSig := rfl
@[simp] theorem State.enterPrefix_halted (s : State) (d : DecoderState) : (s.enterPrefix d).halted = s.halted := rfl
@[simp] theorem State.enterPrefix_nmi (s : State) (d : DecoderState) : (s.enterPrefix d).nmi = s.nmi := rfl
@[simp] theorem State.enterPrefix_int (s : State) (d : DecoderState) : (s.enterPrefix d).int = s.int := rfl
@[simp] theorem State.enterPrefix_dec (s : State) (d : DecoderState) : (s.enterPrefix d).dec = d := rfl
@[simp] theorem State.enterPrefix_intBlocked (s : State) (d : DecoderState) : (s.enterPrefix d).intBlocked = true := rfl
@[simp] theorem State.enterPrefix_opcode (s : State) (d : DecoderState) : (s.enterPrefix d).opcode = s.opcode := rfl
@[simp] theorem State.enterPrefix_instrBytes (s : State) (d : DecoderState) : (s.enterPrefix d).instrBytes = s.instrBytes := rfl
@[simp] theorem State.enterPrefix_instrStart (s : State) (d : DecoderState) : (s.enterPrefix d).instrStart = s.instrStart := rfl
@[simp] theorem State.enterPrefix_prevPC (s : State) (d : DecoderState) : (s.enterPrefix d).prevPC = s.prevPC := rfl
@[simp] theorem State.enterPrefix_ticks (s : State) (d : DecoderState) : (s.enterPrefix d).ticks = s.ticks := rfl
@[simp] theorem State.enterPrefix_mem (s : State) (d : DecoderState) : (s.enterPrefix d).mem = s.mem := rfl
@[simp] theorem State.enterPrefix_deviceCalls (s : State) (d : DecoderState) : (s.enterPrefix d).deviceCalls = s.deviceCalls := rfl
@[simp] theorem State.enterPrefix_portDraws (s : State) (d : DecoderState) : (s.enterPrefix d).portDraws = s.portDraws := rfl
@[simp] theorem State.enterPrefix_cfg (s : State) (d : DecoderState) : (s.enterPrefix d).cfg = s.cfg := rfl
@[simp] theorem State.enterPrefix_read (s : State) (d : DecoderState) (x : Word) : (s.enterPrefix d).read x = s.read x := rfl
@[simp] theorem State.enterPrefix_portIn (s : State) (d : DecoderState) (x : Word) : (s.enterPrefix d).portIn x = s.portIn x := rfl

/-! `State.haltHere` -/

@[simp] theorem State.haltHere_af (s : State) : (s.haltHere).af = s.af := rfl
@[simp] theorem State.haltHere_bc (s : State) : (s.haltHere).bc = s.bc := rfl
@[simp] theorem State.haltHere_de (s : State) : (s.haltHere).de = s.de := rfl
@[simp] theorem State.haltHere_hl (s : State) : (s.haltHere).hl = s.hl := rfl
@[simp] theorem State.haltHere_afAlt (s : State) : (s.haltHere).afAlt = s.afAlt := rfl
@[simp] theorem State.haltHere_bcAlt (s : State) : (s.haltHere).bcAlt = s.bcAlt := rfl
@[simp] theorem State.haltHere_deAlt (s : State) : (s.haltHere).deAlt = s.deAlt := rfl
@[simp] theorem State.haltHere_hlAlt (s : State) : (s.haltHere).hlAlt = s.hlAlt := rfl
@[simp] theorem State.haltHere_ix (s : State) : (s.haltHere).ix = s.ix := rfl
@[simp] theorem State.haltHere_iy (s : State) : (s.haltHere).iy = s.iy := rfl
@[simp] theorem State.haltHere_sp (s : State) : (s.haltHere).sp = s.sp := rfl
@[simp] theorem State.haltHere_pc (s : State) : (s.haltHere).pc = s.pc - 1 := rfl
@[simp] theorem State.haltHere_wz (s : State) : (s.haltHere).wz = s.wz := rfl
@[simp] theorem State.haltHere_i (s : State) : (s.haltHere).i = s.i := rfl
@[simp] theorem State.haltHere_r (s : State) : (s.haltHere).r = s.r := rfl
@[simp] theorem State.haltHere_iff1 (s : State) : (s.haltHere).iff1 = s.iff1 := rfl
@[simp] theorem State.haltHere_iff2 (s : State) : (s.haltHere).iff2 = s.iff2 := rfl
@[simp] theorem State.haltHere_im (s : State) : (s.haltHere).im = s.im := rfl
@[simp] theorem State.haltHere_resetSig (s : State) : (s.haltHere).resetSig = s.resetSig := rfl
@[simp] theorem State.haltHere_halted (s : State) : (s.haltHere).halted = true := rfl
@[simp] theorem State.haltHere_nmi (s : State) : (s.haltHere).nmi = s.nmi := rfl
@[simp] theorem State.haltHere_int (s : State) : (s.haltHere).int = s.int := rfl
@[simp] theorem State.haltHere_dec (s : State) : (s.haltHere).dec = s.dec := rfl
@[simp] theorem State.haltHere_intBlocked (s : State) : (s.haltHere).intBlocked = s.intBlocked := rfl
@[simp] theorem State.haltHere_opcode (s : State) : (s.haltHere).opcode = s.opcode := rfl
@[simp] theorem State.haltHere_instrBytes (s : State) : (s.haltHere).instrBytes = s.instrBytes := rfl
@[simp] theorem State.haltHere_instrStart (s : State) : (s.haltHere).instrStart = s.instrStart := rfl
@[simp] theorem State.haltHere_prevPC (s : State) : (s.haltHere).prevPC = s.prevPC := rfl
@[simp] theorem State.haltHere_ticks (s : State) : (s.haltHere).ticks = s.ticks := rfl
@[simp] theorem State.haltHere_mem (s : State) : (s.haltHere).mem = s.mem := rfl
@[simp] theorem State.haltHere_deviceCalls (s : State) : (s.haltHere).deviceCalls = s.deviceCalls := rfl
@[simp] theorem State.haltHere_portDraws (s : State) : (s.haltHere).portDraws = s.portDraws := rfl
@[simp] theorem State.haltHere_cfg (s : State) : (s.haltHere).cfg = s.cfg := rfl
@[simp] theorem State.haltHere_read (s : State) (x : Word) : (s.haltHere).read x = s.read x := rfl
@[simp] theorem State.haltHere_portIn (s : State) (x : Word) : (s.haltHere).portIn x = s.portIn x := rfl

/-! `State.fetchByte` -/

@[simp] theorem State.fetchByte_af (s : State) : (s.fetchByte).af = s.af := rfl
@[simp] theorem State.fetchByte_bc (s : State) : (s.fetchByte).bc = s.bc := rfl
@[simp] theorem State.fetchByte_de (s : State) : (s.fetchByte).de = s.de := rfl
@[simp] theorem State.fetchByte_hl (s : State) : (s.fetchByte).hl = s.hl := rfl
@[simp] theorem State.fetchByte_afAlt (s : State) : (s.fetchByte).afAlt = s.afAlt := rfl
@[simp] theorem State.fetchByte_bcAlt (s : State) : (s.fetchByte).bcAlt = s.bcAlt := rfl
@[simp] theorem State.fetchByte_deAlt (s : State) : (s.fetchByte).deAlt = s.deAlt := rfl
@[simp] theorem State.fetchByte_hlAlt (s : State) : (s.fetchByte).hlAlt = s.hlAlt := rfl
@[simp] theorem State.fetchByte_ix (s : State) : (s.fetchByte).ix = s.ix := rfl
@[simp] theorem State.fetchByte_iy (s : State) : (s.fetchByte).iy = s.iy := rfl
@[simp] theorem State.fetchByte_sp (s : State) : (s.fetchByte).sp = s.sp := rfl
@[simp] theorem State.fetchByte_pc (s : State) : (s.fetchByte).pc = s.pc + 1 := rfl
@[simp] theorem State.fetchByte_wz (s : State) : (s.fetchByte).wz = s.wz := rfl
@[simp] theorem State.fetchByte_i (s : State) : (s.fetchByte).i = s.i := rfl
@[simp] theorem State.fetchByte_r (s : State) : (s.fetchByte).r = s.r := rfl
@[simp] theorem State.fetchByte_iff1 (s : State) : (s.fetchByte).iff1 = s.iff1 := rfl
@[simp] theorem State.fetchByte_iff2 (s : State) : (s.fetchByte).iff2 = s.iff2 := rfl
@[simp] theorem State.fetchByte_im (s : State) : (s.fetchByte).im = s.im := rfl
@[simp] theorem State.fetchByte_resetSig (s : State) : (s.fetchByte).resetSig = s.resetSig := rfl
@[simp] theorem State.fetchByte_halted (s : State) : (s.fetchByte).halted = s.halted := rfl
@[simp] theorem State.fetchByte_nmi (s : State) : (s.fetchByte).nmi = s.nmi := rfl
@[simp] theorem State.fetchByte_int (s : State) : (s.fetchByte).int = s.int := rfl
@[simp] theorem State.fetchByte_dec (s : State) : (s.fetchByte).dec = s.dec := rfl
@[simp] theorem State.fetchByte_intBlocked (s : State) : (s.fetchByte).intBlocked = s.intBlocked := rfl
@[simp] theorem State.fetchByte_opcode (s : State) : (s.fetchByte).opcode = s.opcode := rfl
@[simp] theorem State.fetchByte_instrBytes (s : State) : (s.fetchByte).instrBytes = s.instrBytes ++ [s.read s.pc] := rfl
@[simp] theorem State.fetchByte_instrStart (s : State) : (s.fetchByte).instrStart = s.instrStart := rfl
@[simp] theorem State.fetchByte_prevPC (s : State) : (s.fetchByte).prevPC = s.prevPC := rfl
@[simp] theorem State.fetchByte_ticks (s : State) : (s.fetchByte).ticks = s.ticks := rfl
@[simp] theorem State.fetchByte_mem (s : State) : (s.fetchByte).mem = s.mem := rfl
@[simp] theorem State.fetchByte_deviceCalls (s : State) : (s.fetchByte).deviceCalls = .memRead s.pc (s.read s.pc) :: s.deviceCalls := rfl
@[simp] theorem State.fetchByte_portDraws (s : State) : (s.fetchByte).portDraws = s.portDraws := rfl
@[simp] theorem State.fetchByte_cfg (s : State) : (s.fetchByte).cfg = s.cfg := rfl

/-! `State.dispatching` -/

@[simp] theorem State.dispatching_af (s : State) (b : Byte) : (s.dispatching b).af = s.af := rfl
@[simp] theorem State.dispatching_bc (s : State) (b : Byte) : (s.dispatching b).bc = s.bc := rfl
@[simp] theorem State.dispatching_de (s : State) (b : Byte) : (s.dispatching b).de = s.de := rfl
@[simp] theorem State.dispatching_hl (s : State) (b : Byte) : (s.dispatching b).hl = s.hl := rfl
@[simp] theorem State.dispatching_afAlt (s : State) (b : Byte) : (s.dispatching b).afAlt = s.afAlt := rfl
@[simp] theorem State.dispatching_bcAlt (s : State) (b : Byte) : (s.dispatching b).bcAlt = s.bcAlt := rfl
@[simp] theorem State.dispatching_deAlt (s : State) (b : Byte) : (s.dispatching b).deAlt = s.deAlt := rfl
@[simp] theorem State.dispatching_hlAlt (s : State) (b : Byte) : (s.dispatching b).hlAlt = s.hlAlt := rfl
@[simp] theorem State.dispatching_ix (s : State) (b : Byte) : (s.dispatching b).ix = s.ix := rfl
@[simp] theorem State.dispatching_iy (s : State) (b : Byte) : (s.dispatching b).iy = s.iy := rfl
@[simp] theorem State.dispatching_sp (s : State) (b : Byte) : (s.dispatching b).sp = s.sp := rfl
@[simp] theorem State.dispatching_pc (s : State) (b : Byte) : (s.dispatching b).pc = s.pc := rfl
@[simp] theorem State.dispatching_wz (s : State) (b : Byte) : (s.dispatching b).wz = s.wz := rfl
@[simp] theorem State.dispatching_i (s : State) (b : Byte) : (s.dispatching b).i = s.i := rfl
@[simp] theorem State.dispatching_r (s : State) (b : Byte) : (s.dispatching b).r = s.r := rfl
@[simp] theorem State.dispatching_iff1 (s : State) (b : Byte) : (s.dispatching b).iff1 = s.iff1 := rfl
@[simp] theorem State.dispatching_iff2 (s : State) (b : Byte) : (s.dispatching b).iff2 = s.iff2 := rfl
@[simp] theorem State.dispatching_im (s : State) (b : Byte) : (s.dispatching b).im = s.im := rfl
@[simp] theorem State.dispatching_resetSig (s : State) (b : Byte) : (s.dispatching b).resetSig = s.resetSig := rfl
@[simp] theorem State.dispatching_halted (s : State) (b : Byte) : (s.dispatching b).halted = s.halted := rfl
@[simp] theorem State.dispatching_nmi (s : State) (b : Byte) : (s.dispatching b).nmi = s.nmi := rfl
@[simp] theorem State.dispatching_int (s : State) (b : Byte) : (s.dispatching b).int = s.int := rfl
@[simp] theorem State.dispatching_dec (s : State) (b : Byte) : (s.dispatching b).dec = s.dec := rfl
@[simp] theorem State.dispatching_intBlocked (s : State) (b : Byte) : (s.dispatching b).intBlocked = s.intBlocked := rfl
@[simp] theorem State.dispatching_opcode (s : State) (b : Byte) : (s.dispatching b).opcode = b := rfl
@[simp] theorem State.dispatching_instrBytes (s : State) (b : Byte) : (s.dispatching b).instrBytes = s.instrBytes := rfl
@[simp] theorem State.dispatching_instrStart (s : State) (b : Byte) : (s.dispatching b).instrStart = s.instrStart := rfl
@[simp] theorem State.dispatching_prevPC (s : State) (b : Byte) : (s.dispatching b).prevPC = s.prevPC := rfl
@[simp] theorem State.dispatching_ticks (s : State) (b : Byte) : (s.dispatching b).ticks = s.ticks := rfl
@[simp] theorem State.dispatching_mem (s : State) (b : Byte) : (s.dispatching b).mem = s.mem := rfl
@[simp] theorem State.dispatching_deviceCalls (s : State) (b : Byte) : (s.dispatching b).deviceCalls = s.deviceCalls := rfl
@[simp] theorem State.dispatching_portDraws (s : State) (b : Byte) : (s.dispatching b).portDraws = s.portDraws := rfl
@[simp] theorem State.dispatching_cfg (s : State) (b : Byte) : (s.dispatching b).cfg = s.cfg := rfl
@[simp] theorem State.dispatching_read (s : State) (b : Byte) (x : Word) : (s.dispatching b).read x = s.read x := rfl
@[simp] theorem State.dispatching_portIn (s : State) (b : Byte) (x : Word) : (s.dispatching b).portIn x = s.portIn x := rfl

/-! `State.boundary` -/

@[simp] theorem State.boundary_af (s : State) (e : Bool) : (s.boundary e).af = s.af := rfl
@[simp] theorem State.boundary_bc (s : State) (e : Bool) : (s.boundary e).bc = s.bc := rfl
@[simp] theorem State.boundary_de (s : State) (e : Bool) : (s.boundary e).de = s.de := rfl
@[simp] theorem State.boundary_hl (s : State) (e : Bool) : (s.boundary e).hl = s.hl := rfl
@[simp] theorem State.boundary_afAlt (s : State) (e : Bool) : (s.boundary e).afAlt = s.afAlt := rfl
@[simp] theorem State.boundary_bcAlt (s : State) (e : Bool) : (s.boundary e).bcAlt = s.bcAlt := rfl
@[simp] theorem State.boundary_deAlt (s : State) (e : Bool) : (s.boundary e).deAlt = s.deAlt := rfl
@[simp] theorem State.boundary_hlAlt (s : State) (e : Bool) : (s.boundary e).hlAlt = s.hlAlt := rfl
@[simp] theorem State.boundary_ix (s : State) (e : Bool) : (s.boundary e).ix = s.ix := rfl
@[simp] theorem State.boundary_iy (s : State) (e : Bool) : (s.boundary e).iy = s.iy := rfl
@[simp] theorem State.boundary_sp (s : State) (e : Bool) : (s.boundary e).sp = s.sp := rfl
@[simp] theorem State.boundary_pc (s : State) (e : Bool) : (s.boundary e).pc = s.pc := rfl
@[simp] theorem State.boundary_wz (s : State) (e : Bool) : (s.boundary e).wz = s.wz := rfl
@[simp] theorem State.boundary_i (s : State) (e : Bool) : (s.boundary e).i = s.i := rfl
@[simp] theorem State.boundary_r (s : State) (e : Bool) : (s.boundary e).r = s.r := rfl
@[simp] theorem State.boundary_iff1 (s : State) (e : Bool) : (s.boundary e).iff1 = s.iff1 := rfl
@[simp] theorem State.boundary_iff2 (s : State) (e : Bool) : (s.boundary e).iff2 = s.iff2 := rfl
@[simp] theorem State.boundary_im (s : State) (e : Bool) : (s.boundary e).im = s.im := rfl
@[simp] theorem State.boundary_resetSig (s : State) (e : Bool) : (s.boundary e).resetSig = s.resetSig := rfl
@[simp] theorem State.boundary_halted (s : State) (e : Bool) : (s.boundary e).halted = s.halted := rfl
@[simp] theorem State.boundary_nmi (s : State) (e : Bool) : (s.boundary e).nmi = s.nmi := rfl
@[simp] theorem State.boundary_int (s : State) (e : Bool) : (s.boundary e).int = s.int := rfl
@[simp] theorem State.boundary_dec (s : State) (e : Bool) : (s.boundary e).dec = .idle := rfl
@[simp] theorem State.boundary_intBlocked (s : State) (e : Bool) : (s.boundary e).intBlocked = (e && s.cfg.eiDelay) := rfl
@[simp] theorem State.boundary_opcode (s : State) (e : Bool) : (s.boundary e).opcode = s.opcode := rfl
@[simp] theorem State.boundary_instrBytes (s : State) (e : Bool) : (s.boundary e).instrBytes = [] := rfl
@[simp] theorem State.boundary_instrStart (s : State) (e : Bool) : (s.boundary e).instrStart = s.instrStart := rfl
@[simp] theorem State.boundary_prevPC (s : State) (e : Bool) : (s.boundary e).prevPC = s.instrStart := rfl
@[simp] theorem State.boundary_ticks (s : State) (e : Bool) : (s.boundary e).ticks = s.ticks := rfl
@[simp] theorem State.boundary_mem (s : State) (e : Bool) : (s.boundary e).mem = s.mem := rfl
@[simp] theorem State.boundary_deviceCalls (s : State) (e : Bool) : (s.boundary e).deviceCalls = s.deviceCalls := rfl
@[simp] theorem State.boundary_portDraws (s : State) (e : Bool) : (s.boundary e).portDraws = s.portDraws := rfl
@[simp] theorem State.boundary_cfg (s : State) (e : Bool) : (s.boundary e).cfg = s.cfg := rfl
@[simp] theorem State.boundary_read (s : State) (e : Bool) (x : Word) : (s.boundary e).read x = s.read x := rfl
@[simp] theorem State.boundary_portIn (s : State) (e : Bool) (x : Word) : (s.boundary e).portIn x = s.portIn x := rfl

/-! `State.setR8`: the fields it leaves -/

@[simp] theorem State.setR8_afAlt (s : State) (r : Reg8) (v : Byte) : (s.setR8 r v).afAlt = s.afAlt := by cases r <;> rfl
@[simp] theorem State.setR8_bcAlt (s : State) (r : Reg8) (v : Byte) : (s.setR8 r v).bcAlt = s.bcAlt := by cases r <;> rfl
@[simp] theorem State.setR8_deAlt (s : State) (r : Reg8) (v : Byte) : (s.setR8 r v).deAlt = s.deAlt := by cases r <;> rfl
@[simp] theorem State.setR8_hlAlt (s : State) (r : Reg8) (v : Byte) : (s.setR8 r v).hlAlt = s.hlAlt := by cases r <;> rfl
@[simp] theorem State.setR8_ix (s : State) (r : Reg8) (v : Byte) : (s.setR8 r v).ix = s.ix := by cases r <;> rfl
@[simp] theorem State.setR8_iy (s : State) (r : Reg8) (v : Byte) : (s.setR8 r v).iy = s.iy := by cases r <;> rfl
@[simp] theorem State.setR8_sp (s : State) (r : Reg8) (v : Byte) : (s.setR8 r v).sp = s.sp := by cases r <;> rfl
@[simp] theorem State.setR8_pc (s : State) (r : Reg8) (v : Byte) : (s.setR8 r v).pc = s.pc := by cases r <;> rfl
@[simp] theorem State.setR8_wz (s : State) (r : Reg8) (v : Byte) : (s.setR8 r v).wz = s.wz := by cases r <;> rfl
@[simp] theorem State.setR8_i (s : State) (r : Reg8) (v : Byte) : (s.setR8 r v).i = s.i := by cases r <;> rfl
@[simp] theorem State.setR8_r (s : State) (r : Reg8) (v : Byte) : (s.setR8 r v).r = s.r := by cases r <;> rfl
@[simp] theorem State.setR8_iff1 (s : State) (r : Reg8) (v : Byte) : (s.setR8 r v).iff1 = s.iff1 := by cases r <;> rfl
@[simp] theorem State.setR8_iff2 (s : State) (r : Reg8) (v : Byte) : (s.setR8 r v).iff2 = s.iff2 := by cases r <;> rfl
@[simp] theorem State.setR8_im (s : State) (r : Reg8) (v : Byte) : (s.setR8 r v).im = s.im := by cases r <;> rfl
@[simp] theorem State.setR8_resetSig (s : State) (r : Reg8) (v : Byte) : (s.setR8 r v).resetSig = s.resetSig := by cases r <;> rfl
@[simp] theorem State.setR8_halted (s : State) (r : Reg8) (v : Byte) : (s.setR8 r v).halted = s.halted := by cases r <;> rfl
@[simp] theorem State.setR8_nmi (s : State) (r : Reg8) (v : Byte) : (s.setR8 r v).nmi = s.nmi := by cases r <;> rfl
@[simp] theorem State.setR8_int (s : State) (r : Reg8) (v : Byte) : (s.setR8 r v).int = s.int := by cases r <;> rfl
@[simp] theorem State.setR8_dec (s : State) (r : Reg8) (v : Byte) : (s.setR8 r v).dec = s.dec := by cases r <;> rfl
@[simp] theorem State.setR8_intBlocked (s : State) (r : Reg8) (v : Byte) : (s.setR8 r v).intBlocked = s.intBlocked := by cases r <;> rfl
@[simp] theorem State.setR8_opcode (s : State) (r : Reg8) (v : Byte) : (s.setR8 r v).opcode = s.opcode := by cases r <;> rfl
@[simp] theorem State.setR8_instrBytes (s : State) (r : Reg8) (v : Byte) : (s.setR8 r v).instrBytes = s.instrBytes := by cases r <;> rfl
@[simp] theorem State.setR8_instrStart (s : State) (r : Reg8) (v : Byte) : (s.setR8 r v).instrStart = s.instrStart := by cases r <;> rfl
@[simp] theorem State.setR8_prevPC (s : State) (r : Reg8) (v : Byte) : (s.setR8 r v).prevPC = s.prevPC := by cases r <;> rfl
@[simp] theorem State.setR8_ticks (s : State) (r : Reg8) (v : Byte) : (s.setR8 r v).ticks = s.ticks := by cases r <;> rfl
@[simp] theorem State.setR8_mem (s : State) (r : Reg8) (v : Byte) : (s.setR8 r v).mem = s.mem := by cases r <;> rfl
@[simp] theorem State.setR8_deviceCalls (s : State) (r : Reg8) (v : Byte) : (s.setR8 r v).deviceCalls = s.deviceCalls := by cases r <;> rfl
@[simp] theorem State.setR8_portDraws (s : State) (r : Reg8) (v : Byte) : (s.setR8 r v).portDraws = s.portDraws := by cases r <;> rfl
@[simp] theorem State.setR8_cfg (s : State) (r : Reg8) (v : Byte) : (s.setR8 r v).cfg = s.cfg := by cases r <;> rfl
@[simp] theorem State.setR8_read (s : State) (r : Reg8) (v : Byte) (x : Word) : (s.setR8 r v).read x = s.read x := by cases r <;> rfl
@[simp] theorem State.setR8_portIn (s : State) (r : Reg8) (v : Byte) (x : Word) : (s.setR8 r v).portIn x = s.portIn x := by cases r <;> rfl

/-! `State.setIdx`: the fields it leaves -/

@[simp] theorem State.setIdx_af (s : State) (x : Idx) (v : Word) : (s.setIdx x v).af = s.af := by cases x <;> rfl
@[simp] theorem State.setIdx_bc (s : State) (x : Idx) (v : Word) : (s.setIdx x v).bc = s.bc := by cases x <;> rfl
@[simp] theorem State.setIdx_de (s : State) (x : Idx) (v : Word) : (s.setIdx x v).de = s.de := by cases x <;> rfl
@[simp] theorem State.setIdx_hl (s : State) (x : Idx) (v : Word) : (s.setIdx x v).hl = s.hl := by cases x <;> rfl
@[simp] theorem State.setIdx_afAlt (s : State) (x : Idx) (v : Word) : (s.setIdx x v).afAlt = s.afAlt := by cases x <;> rfl
@[simp] theorem State.setIdx_bcAlt (s : State) (x : Idx) (v : Word) : (s.setIdx x v).bcAlt = s.bcAlt := by cases x <;> rfl
@[simp] theorem State.setIdx_deAlt (s : State) (x : Idx) (v : Word) : (s.setIdx x v).deAlt = s.deAlt := by cases x <;> rfl
@[simp] theorem State.setIdx_hlAlt (s : State) (x : Idx) (v : Word) : (s.setIdx x v).hlAlt = s.hlAlt := by cases x <;> rfl
@[simp] theorem State.setIdx_sp (s : State) (x : Idx) (v : Word) : (s.setIdx x v).sp = s.sp := by cases x <;> rfl
@[simp] theorem State.setIdx_pc (s : State) (x : Idx) (v : Word) : (s.setIdx x v).pc = s.pc := by cases x <;> rfl
@[simp] theorem State.setIdx_wz (s : State) (x : Idx) (v : Word) : (s.setIdx x v).wz = s.wz := by cases x <;> rfl
@[simp] theorem State.setIdx_i (s : State) (x : Idx) (v : Word) : (s.setIdx x v).i = s.i := by cases x <;> rfl
@[simp] theorem State.setIdx_r (s : State) (x : Idx) (v : Word) : (s.setIdx x v).r = s.r := by cases x <;> rfl
@[simp] theorem State.setIdx_iff1 (s : State) (x : Idx) (v : Word) : (s.setIdx x v).iff1 = s.iff1 := by cases x <;> rfl
@[simp] theorem State.setIdx_iff2 (s : State) (x : Idx) (v : Word) : (s.setIdx x v).iff2 = s.iff2 := by cases x <;> rfl
@[simp] theorem State.setIdx_im (s : State) (x : Idx) (v : Word) : (s.setIdx x v).im = s.im := by cases x <;> rfl
@[simp] theorem State.setIdx_resetSig (s : State) (x : Idx) (v : Word) : (s.setIdx x v).resetSig = s.resetSig := by cases x <;> rfl
@[simp] theorem State.setIdx_halted (s : State) (x : Idx) (v : Word) : (s.setIdx x v).halted = s.halted := by cases x <;> rfl
@[simp] theorem State.setIdx_nmi (s : State) (x : Idx) (v : Word) : (s.setIdx x v).nmi = s.nmi := by cases x <;> rfl
@[simp] theorem State.setIdx_int (s : State) (x : Idx) (v : Word) : (s.setIdx x v).int = s.int := by cases x <;> rfl
@[simp] theorem State.setIdx_dec (s : State) (x : Idx) (v : Word) : (s.setIdx x v).dec = s.dec := by cases x <;> rfl
@[simp] theorem State.setIdx_intBlocked (s : State) (x : Idx) (v : Word) : (s.setIdx x v).intBlocked = s.intBlocked := by cases x <;> rfl
@[simp] theorem State.setIdx_opcode (s : State) (x : Idx) (v : Word) : (s.setIdx x v).opcode = s.opcode := by cases x <;> rfl
@[simp] theorem State.setIdx_instrBytes (s : State) (x : Idx) (v : Word) : (s.setIdx x v).instrBytes = s.instrBytes := by cases x <;> rfl
@[simp] theorem State.setIdx_instrStart (s : State) (x : Idx) (v : Word) : (s.setIdx x v).instrStart = s.instrStart := by cases x <;> rfl
@[simp] theorem State.setIdx_prevPC (s : State) (x : Idx) (v : Word) : (s.setIdx x v).prevPC = s.prevPC := by cases x <;> rfl
@[simp] theorem State.setIdx_ticks (s : State) (x : Idx) (v : Word) : (s.setIdx x v).ticks = s.ticks := by cases x <;> rfl
@[simp] theorem State.setIdx_mem (s : State) (x : Idx) (v : Word) : (s.setIdx x v).mem = s.mem := by cases x <;> rfl
@[simp] theorem State.setIdx_deviceCalls (s : State) (x : Idx) (v : Word) : (s.setIdx x v).deviceCalls = s.deviceCalls := by cases x <;> rfl
@[simp] theorem State.setIdx_portDraws (s : State) (x : Idx) (v : Word) : (s.setIdx x v).portDraws = s.portDraws := by cases x <;> rfl
@[simp] theorem State.setIdx_cfg (s : State) (x : Idx) (v : Word) : (s.setIdx x v).cfg = s.cfg := by cases x <;> rfl
@[simp] theorem State.setIdx_read (s : State) (x : Idx) (v : Word) (w : Word) : (s.setIdx x v).read w = s.read w := by cases x <;> rfl
@[simp] theorem State.setIdx_portIn (s : State) (x : Idx) (v : Word) (w : Word) : (s.setIdx x v).portIn w = s.portIn w := by cases x <;> rfl

/-! `State.setHalf`: the fields it leaves -/

@[simp] theorem State.setHalf_af (s : State) (x : Idx) (h : Half) (v : Byte) : (s.setHalf x h v).af = s.af := by cases x <;> cases h <;> rfl
@[simp] theorem State.setHalf_bc (s : State) (x : Idx) (h : Half) (v : Byte) : (s.setHalf x h v).bc = s.bc := by cases x <;> cases h <;> rfl
@[simp] theorem State.setHalf_de (s : State) (x : Idx) (h : Half) (v : Byte) : (s.setHalf x h v).de = s.de := by cases x <;> cases h <;> rfl
@[simp] theorem State.setHalf_hl (s : State) (x : Idx) (h : Half) (v : Byte) : (s.setHalf x h v).hl = s.hl := by cases x <;> cases h <;> rfl
@[simp] theorem State.setHalf_afAlt (s : State) (x : Idx) (h : Half) (v : Byte) : (s.setHalf x h v).afAlt = s.afAlt := by cases x <;> cases h <;> rfl
@[simp] theorem State.setHalf_bcAlt (s : State) (x : Idx) (h : Half) (v : Byte) : (s.setHalf x h v).bcAlt = s.bcAlt := by cases x <;> cases h <;> rfl
@[simp] theorem State.setHalf_deAlt (s : State) (x : Idx) (h : Half) (v : Byte) : (s.setHalf x h v).deAlt = s.deAlt := by cases x <;> cases h <;> rfl
@[simp] theorem State.setHalf_hlAlt (s : State) (x : Idx) (h : Half) (v : Byte) : (s.setHalf x h v).hlAlt = s.hlAlt := by cases x <;> cases h <;> rfl
@[simp] theorem State.setHalf_sp (s : State) (x : Idx) (h : Half) (v : Byte) : (s.setHalf x h v).sp = s.sp := by cases x <;> cases h <;> rfl
@[simp] theorem State.setHalf_pc (s : State) (x : Idx) (h : Half) (v : Byte) : (s.setHalf x h v).pc = s.pc := by cases x <;> cases h <;> rfl
@[simp] theorem State.setHalf_wz (s : State) (x : Idx) (h : Half) (v : Byte) : (s.setHalf x h v).wz = s.wz := by cases x <;> cases h <;> rfl
@[simp] theorem State.setHalf_i (s : State) (x : Idx) (h : Half) (v : Byte) : (s.setHalf x h v).i = s.i := by cases x <;> cases h <;> rfl
@[simp] theorem State.setHalf_r (s : State) (x : Idx) (h : Half) (v : Byte) : (s.setHalf x h v).r = s.r := by cases x <;> cases h <;> rfl
@[simp] theorem State.setHalf_iff1 (s : State) (x : Idx) (h : Half) (v : Byte) : (s.setHalf x h v).iff1 = s.iff1 := by cases x <;> cases h <;> rfl
@[simp] theorem State.setHalf_iff2 (s : State) (x : Idx) (h : Half) (v : Byte) : (s.setHalf x h v).iff2 = s.iff2 := by cases x <;> cases h <;> rfl
@[simp] theorem State.setHalf_im (s : State) (x : Idx) (h : Half) (v : Byte) : (s.setHalf x h v).im = s.im := by cases x <;> cases h <;> rfl
@[simp] theorem State.setHalf_resetSig (s : State) (x : Idx) (h : Half) (v : Byte) : (s.setHalf x h v).resetSig = s.resetSig := by cases x <;> cases h <;> rfl
@[simp] theorem State.setHalf_halted (s : State) (x : Idx) (h : Half) (v : Byte) : (s.setHalf x h v).halted = s.halted := by cases x <;> cases h <;> rfl
@[simp] theorem State.setHalf_nmi (s : State) (x : Idx) (h : Half) (v : Byte) : (s.setHalf x h v).nmi = s.nmi := by cases x <;> cases h <;> rfl
@[simp] theorem State.setHalf_int (s : State) (x : Idx) (h : Half) (v : Byte) : (s.setHalf x h v).int = s.int := by cases x <;> cases h <;> rfl
@[simp] theorem State.setHalf_dec (s : State) (x : Idx) (h : Half) (v : Byte) : (s.setHalf x h v).dec = s.dec := by cases x <;> cases h <;> rfl
@[simp] theorem State.setHalf_intBlocked (s : State) (x : Idx) (h : Half) (v : Byte) : (s.setHalf x h v).intBlocked = s.intBlocked := by cases x <;> cases h <;> rfl
@[simp] theorem State.setHalf_opcode (s : State) (x : Idx) (h : Half) (v : Byte) : (s.setHalf x h v).opcode = s.opcode := by cases x <;> cases h <;> rfl
@[simp] theorem State.setHalf_instrBytes (s : State) (x : Idx) (h : Half) (v : Byte) : (s.setHalf x h v).instrBytes = s.instrBytes := by cases x <;> cases h <;> rfl
@[simp] theorem State.setHalf_instrStart (s : State) (x : Idx) (h : Half) (v : Byte) : (s.setHalf x h v).instrStart = s.instrStart := by cases x <;> cases h <;> rfl
@[simp] theorem State.setHalf_prevPC (s : State) (x : Idx) (h : Half) (v : Byte) : (s.setHalf x h v).prevPC = s.prevPC := by cases x <;> cases h <;> rfl
@[simp] theorem State.setHalf_ticks (s : State) (x : Idx) (h : Half) (v : Byte) : (s.setHalf x h v).ticks = s.ticks := by cases x <;> cases h <;> rfl
@[simp] theorem State.setHalf_mem (s : State) (x : Idx) (h : Half) (v : Byte) : (s.setHalf x h v).mem = s.mem := by cases x <;> cases h <;> rfl
@[simp] theorem State.setHalf_deviceCalls (s : State) (x : Idx) (h : Half) (v : Byte) : (s.setHalf x h v).deviceCalls = s.deviceCalls := by cases x <;> cases h <;> rfl
@[simp] theorem State.setHalf_portDraws (s : State) (x : Idx) (h : Half) (v : Byte) : (s.setHalf x h v).portDraws = s.portDraws := by cases x <;> cases h <;> rfl
@[simp] theorem State.setHalf_cfg (s : State) (x : Idx) (h : Half) (v : Byte) : (s.setHalf x h v).cfg = s.cfg := by cases x <;> cases h <;> rfl
@[simp] theorem State.setHalf_read (s : State) (x : Idx) (h : Half) (v : Byte) (w : Word) : (s.setHalf x h v).read w = s.read w := by cases x <;> cases h <;> rfl
@[simp] theorem State.setHalf_portIn (s : State) (x : Idx) (h : Half) (v : Byte) (w : Word) : (s.setHalf x h v).portIn w = s.portIn w := by cases x <;> cases h <;> rfl

/-! `State.setR8X`: the fields it leaves -/

@[simp] theorem State.setR8X_hl (s : State) (x : Idx) (r : Reg8) (v : Byte) : (s.setR8X x r v).hl = s.hl := by cases r <;> cases x <;> rfl
@[simp] theorem State.setR8X_afAlt (s : State) (x : Idx) (r : Reg8) (v : Byte) : (s.setR8X x r v).afAlt = s.afAlt := by cases r <;> cases x <;> rfl
@[simp] theorem State.setR8X_bcAlt (s : State) (x : Idx) (r : Reg8) (v : Byte) : (s.setR8X x r v).bcAlt = s.bcAlt := by cases r <;> cases x <;> rfl
@[simp] theorem State.setR8X_deAlt (s : State) (x : Idx) (r : Reg8) (v : Byte) : (s.setR8X x r v).deAlt = s.deAlt := by cases r <;> cases x <;> rfl
@[simp] theorem State.setR8X_hlAlt (s : State) (x : Idx) (r : Reg8) (v : Byte) : (s.setR8X x r v).hlAlt = s.hlAlt := by cases r <;> cases x <;> rfl
@[simp] theorem State.setR8X_sp (s : State) (x : Idx) (r : Reg8) (v : Byte) : (s.setR8X x r v).sp = s.sp := by cases r <;> cases x <;> rfl
@[simp] theorem State.setR8X_pc (s : State) (x : Idx) (r : Reg8) (v : Byte) : (s.setR8X x r v).pc = s.pc := by cases r <;> cases x <;> rfl
@[simp] theorem State.setR8X_wz (s : State) (x : Idx) (r : Reg8) (v : Byte) : (s.setR8X x r v).wz = s.wz := by cases r <;> cases x <;> rfl
@[simp] theorem State.setR8X_i (s : State) (x : Idx) (r : Reg8) (v : Byte) : (s.setR8X x r v).i = s.i := by cases r <;> cases x <;> rfl
@[simp] theorem State.setR8X_r (s : State) (x : Idx) (r : Reg8) (v : Byte) : (s.setR8X x r v).r = s.r := by cases r <;> cases x <;> rfl
@[simp] theorem State.setR8X_iff1 (s : State) (x : Idx) (r : Reg8) (v : Byte) : (s.setR8X x r v).iff1 = s.iff1 := by cases r <;> cases x <;> rfl
@[simp] theorem State.setR8X_iff2 (s : State) (x : Idx) (r : Reg8) (v : Byte) : (s.setR8X x r v).iff2 = s.iff2 := by cases r <;> cases x <;> rfl
@[simp] theorem State.setR8X_im (s : State) (x : Idx) (r : Reg8) (v : Byte) : (s.setR8X x r v).im = s.im := by cases r <;> cases x <;> rfl
@[simp] theorem State.setR8X_resetSig (s : State) (x : Idx) (r : Reg8) (v : Byte) : (s.setR8X x r v).resetSig = s.resetSig := by cases r <;> cases x <;> rfl
@[simp] theorem State.setR8X_halted (s : State) (x : Idx) (r : Reg8) (v : Byte) : (s.setR8X x r v).halted = s.halted := by cases r <;> cases x <;> rfl
@[simp] theorem State.setR8X_nmi (s : State) (x : Idx) (r : Reg8) (v : Byte) : (s.setR8X x r v).nmi = s.nmi := by cases r <;> cases x <;> rfl
@[simp] theorem State.setR8X_int (s : State) (x : Idx) (r : Reg8) (v : Byte) : (s.setR8X x r v).int = s.int := by cases r <;> cases x <;> rfl
@[simp] theorem State.setR8X_dec (s : State) (x : Idx) (r : Reg8) (v : Byte) : (s.setR8X x r v).dec = s.dec := by cases r <;> cases x <;> rfl
@[simp] theorem State.setR8X_intBlocked (s : State) (x : Idx) (r : Reg8) (v : Byte) : (s.setR8X x r v).intBlocked = s.intBlocked := by cases r <;> cases x <;> rfl
@[simp] theorem State.setR8X_opcode (s : State) (x : Idx) (r : Reg8) (v : Byte) : (s.setR8X x r v).opcode = s.opcode := by cases r <;> cases x <;> rfl
@[simp] theorem State.setR8X_instrBytes (s : State) (x : Idx) (r : Reg8) (v : Byte) : (s.setR8X x r v).instrBytes = s.instrBytes := by cases r <;> cases x <;> rfl
@[simp] theorem State.setR8X_instrStart (s : State) (x : Idx) (r : Reg8) (v : Byte) : (s.setR8X x r v).instrStart = s.instrStart := by cases r <;> cases x <;> rfl
@[simp] theorem State.setR8X_prevPC (s : State) (x : Idx) (r : Reg8) (v : Byte) : (s.setR8X x r v).prevPC = s.prevPC := by cases r <;> cases x <;> rfl
@[simp] theorem State.setR8X_ticks (s : State) (x : Idx) (r : Reg8) (v : Byte) : (s.setR8X x r v).ticks = s.ticks := by cases r <;> cases x <;> rfl
@[simp] theorem State.setR8X_mem (s : State) (x : Idx) (r : Reg8) (v : Byte) : (s.setR8X x r v).mem = s.mem := by cases r <;> cases x <;> rfl
@[simp] theorem State.setR8X_deviceCalls (s : State) (x : Idx) (r : Reg8) (v : Byte) : (s.setR8X x r v).deviceCalls = s.deviceCalls := by cases r <;> cases x <;> rfl
@[simp] theorem State.setR8X_portDraws (s : State) (x : Idx) (r : Reg8) (v : Byte) : (s.setR8X x r v).portDraws = s.portDraws := by cases r <;> cases x <;> rfl
@[simp] theorem State.setR8X_cfg (s : State) (x : Idx) (r : Reg8) (v : Byte) : (s.setR8X x r v).cfg = s.cfg := by cases r <;> cases x <;> rfl
@[simp] theorem State.setR8X_read (s : State) (x : Idx) (r : Reg8) (v : Byte) (w : Word) : (s.setR8X x r v).read w = s.read w := by cases r <;> cases x <;> rfl
@[simp] theorem State.setR8X_portIn (s : State) (x : Idx) (r : Reg8) (v : Byte) (w : Word) : (s.setR8X x r v).portIn w = s.portIn w := by cases r <;> cases x <;> rfl

/-! `State.setRp`: the fields it leaves -/

@[simp] theorem State.setRp_af (s : State) (p : Rp) (v : Word) : (s.setRp p v).af = s.af := by cases p <;> rfl
@[simp] theorem State.setRp_afAlt (s : State) (p : Rp) (v : Word) : (s.setRp p v).afAlt = s.afAlt := by cases p <;> rfl
@[simp] theorem State.setRp_bcAlt (s : State) (p : Rp) (v : Word) : (s.setRp p v).bcAlt = s.bcAlt := by cases p <;> rfl
@[simp] theorem State.setRp_deAlt (s : State) (p : Rp) (v : Word) : (s.setRp p v).deAlt = s.deAlt := by cases p <;> rfl
@[simp] theorem State.setRp_hlAlt (s : State) (p : Rp) (v : Word) : (s.setRp p v).hlAlt = s.hlAlt := by cases p <;> rfl
@[simp] theorem State.setRp_ix (s : State) (p : Rp) (v : Word) : (s.setRp p v).ix = s.ix := by cases p <;> rfl
@[simp] theorem State.setRp_iy (s : State) (p : Rp) (v : Word) : (s.setRp p v).iy = s.iy := by cases p <;> rfl
@[simp] theorem State.setRp_pc (s : State) (p : Rp) (v : Word) : (s.setRp p v).pc = s.pc := by cases p <;> rfl
@[simp] theorem State.setRp_wz (s : State) (p : Rp) (v : Word) : (s.setRp p v).wz = s.wz := by cases p <;> rfl
@[simp] theorem State.setRp_i (s : State) (p : Rp) (v : Word) : (s.setRp p v).i = s.i := by cases p <;> rfl
@[simp] theorem State.setRp_r (s : State) (p : Rp) (v : Word) : (s.setRp p v).r = s.r := by cases p <;> rfl
@[simp] theorem State.setRp_iff1 (s : State) (p : Rp) (v : Word) : (s.setRp p v).iff1 = s.iff1 := by cases p <;> rfl
@[simp] theorem State.setRp_iff2 (s : State) (p : Rp) (v : Word) : (s.setRp p v).iff2 = s.iff2 := by cases p <;> rfl
@[simp] theorem State.setRp_im (s : State) (p : Rp) (v : Word) : (s.setRp p v).im = s.im := by cases p <;> rfl
@[simp] theorem State.setRp_resetSig (s : State) (p : Rp) (v : Word) : (s.setRp p v).resetSig = s.resetSig := by cases p <;> rfl
@[simp] theorem State.setRp_halted (s : State) (p : Rp) (v : Word) : (s.setRp p v).halted = s.halted := by cases p <;> rfl
@[simp] theorem State.setRp_nmi (s : State) (p : Rp) (v : Word) : (s.setRp p v).nmi = s.nmi := by cases p <;> rfl
@[simp] theorem State.setRp_int (s : State) (p : Rp) (v : Word) : (s.setRp p v).int = s.int := by cases p <;> rfl
@[simp] theorem State.setRp_dec (s : State) (p : Rp) (v : Word) : (s.setRp p v).dec = s.dec := by cases p <;> rfl
@[simp] theorem State.setRp_intBlocked (s : State) (p : Rp) (v : Word) : (s.setRp p v).intBlocked = s.intBlocked := by cases p <;> rfl
@[simp] theorem State.setRp_opcode (s : State) (p : Rp) (v : Word) : (s.setRp p v).opcode = s.opcode := by cases p <;> rfl
@[simp] theorem State.setRp_instrBytes (s : State) (p : Rp) (v : Word) : (s.setRp p v).instrBytes = s.instrBytes := by cases p <;> rfl
@[simp] theorem State.setRp_instrStart (s : State) (p : Rp) (v : Word) : (s.setRp p v).instrStart = s.instrStart := by cases p <;> rfl
@[simp] theorem State.setRp_prevPC (s : State) (p : Rp) (v : Word) : (s.setRp p v).prevPC = s.prevPC := by cases p <;> rfl
@[simp] theorem State.setRp_ticks (s : State) (p : Rp) (v : Word) : (s.setRp p v).ticks = s.ticks := by cases p <;> rfl
@[simp] theorem State.setRp_mem (s : State) (p : Rp) (v : Word) : (s.setRp p v).mem = s.mem := by cases p <;> rfl
@[simp] theorem State.setRp_deviceCalls (s : State) (p : Rp) (v : Word) : (s.setRp p v).deviceCalls = s.deviceCalls := by cases p <;> rfl
@[simp] theorem State.setRp_portDraws (s : State) (p : Rp) (v : Word) : (s.setRp p v).portDraws = s.portDraws := by cases p <;> rfl
@[simp] theorem State.setRp_cfg (s : State) (p : Rp) (v : Word) : (s.setRp p v).cfg = s.cfg := by cases p <;> rfl
@[simp] theorem State.setRp_read (s : State) (p : Rp) (v : Word) (x : Word) : (s.setRp p v).read x = s.read x := by cases p <;> rfl
@[simp] theorem State.setRp_portIn (s : State) (p : Rp) (v : Word) (x : Word) : (s.setRp p v).portIn x = s.portIn x := by cases p <;> rfl

/-! `State.setRp2`: the fields it leaves -/

@[simp] theorem State.setRp2_afAlt (s : State) (p : Rp2) (v : Word) : (s.setRp2 p v).afAlt = s.afAlt := by cases p <;> rfl
@[simp] theorem State.setRp2_bcAlt (s : State) (p : Rp2) (v : Word) : (s.setRp2 p v).bcAlt = s.bcAlt := by cases p <;> rfl
@[simp] theorem State.setRp2_deAlt (s : State) (p : Rp2) (v : Word) : (s.setRp2 p v).deAlt = s.deAlt := by cases p <;> rfl
@[simp] theorem State.setRp2_hlAlt (s : State) (p : Rp2) (v : Word) : (s.setRp2 p v).hlAlt = s.hlAlt := by cases p <;> rfl
@[simp] theorem State.setRp2_ix (s : State) (p : Rp2) (v : Word) : (s.setRp2 p v).ix = s.ix := by cases p <;> rfl
@[simp] theorem State.setRp2_iy (s : State) (p : Rp2) (v : Word) : (s.setRp2 p v).iy = s.iy := by cases p <;> rfl
@[simp] theorem State.setRp2_sp (s : State) (p : Rp2) (v : Word) : (s.setRp2 p v).sp = s.sp := by cases p <;> rfl
@[simp] theorem State.setRp2_pc (s : State) (p : Rp2) (v : Word) : (s.setRp2 p v).pc = s.pc := by cases p <;> rfl
@[simp] theorem State.setRp2_wz (s : State) (p : Rp2) (v : Word) : (s.setRp2 p v).wz = s.wz := by cases p <;> rfl
@[simp] theorem State.setRp2_i (s : State) (p : Rp2) (v : Word) : (s.setRp2 p v).i = s.i := by cases p <;> rfl
@[simp] theorem State.setRp2_r (s : State) (p : Rp2) (v : Word) : (s.setRp2 p v).r = s.r := by cases p <;> rfl
@[simp] theorem State.setRp2_iff1 (s : State) (p : Rp2) (v : Word) : (s.setRp2 p v).iff1 = s.iff1 := by cases p <;> rfl
@[simp] theorem State.setRp2_iff2 (s : State) (p : Rp2) (v : Word) : (s.setRp2 p v).iff2 = s.iff2 := by cases p <;> rfl
@[simp] theorem State.setRp2_im (s : State) (p : Rp2) (v : Word) : (s.setRp2 p v).im = s.im := by cases p <;> rfl
@[simp] theorem State.setRp2_resetSig (s : State) (p : Rp2) (v : Word) : (s.setRp2 p v).resetSig = s.resetSig := by cases p <;> rfl
@[simp] theorem State.setRp2_halted (s : State) (p : Rp2) (v : Word) : (s.setRp2 p v).halted = s.halted := by cases p <;> rfl
@[simp] theorem State.setRp2_nmi (s : State) (p : Rp2) (v : Word) : (s.setRp2 p v).nmi = s.nmi := by cases p <;> rfl
@[simp] theorem State.setRp2_int (s : State) (p : Rp2) (v : Word) : (s.setRp2 p v).int = s.int := by cases p <;> rfl
@[simp] theorem State.setRp2_dec (s : State) (p : Rp2) (v : Word) : (s.setRp2 p v).dec = s.dec := by cases p <;> rfl
@[simp] theorem State.setRp2_intBlocked (s : State) (p : Rp2) (v : Word) : (s.setRp2 p v).intBlocked = s.intBlocked := by cases p <;> rfl
@[simp] theorem State.setRp2_opcode (s : State) (p : Rp2) (v : Word) : (s.setRp2 p v).opcode = s.opcode := by cases p <;> rfl
@[simp] theorem State.setRp2_instrBytes (s : State) (p : Rp2) (v : Word) : (s.setRp2 p v).instrBytes = s.instrBytes := by cases p <;> rfl
@[simp] theorem State.setRp2_instrStart (s : State) (p : Rp2) (v : Word) : (s.setRp2 p v).instrStart = s.instrStart := by cases p <;> rfl
@[simp] theorem State.setRp2_prevPC (s : State) (p : Rp2) (v : Word) : (s.setRp2 p v).prevPC = s.prevPC := by cases p <;> rfl
@[simp] theorem State.setRp2_ticks (s : State) (p : Rp2) (v : Word) : (s.setRp2 p v).ticks = s.ticks := by cases p <;> rfl
@[simp] theorem State.setRp2_mem (s : State) (p : Rp2) (v : Word) : (s.setRp2 p v).mem = s.mem := by cases p <;> rfl
@[simp] theorem State.setRp2_deviceCalls (s : State) (p : Rp2) (v : Word) : (s.setRp2 p v).deviceCalls = s.deviceCalls := by cases p <;> rfl
@[simp] theorem State.setRp2_portDraws (s : State) (p : Rp2) (v : Word) : (s.setRp2 p v).portDraws = s.portDraws := by cases p <;> rfl
@[simp] theorem State.setRp2_cfg (s : State) (p : Rp2) (v : Word) : (s.setRp2 p v).cfg = s.cfg := by cases p <;> rfl
@[simp] theorem State.setRp2_read (s : State) (p : Rp2) (v : Word) (x : Word) : (s.setRp2 p v).read x = s.read x := by cases p <;> rfl
@[simp] theorem State.setRp2_portIn (s : State) (p : Rp2) (v : Word) (x : Word) : (s.setRp2 p v).portIn x = s.portIn x := by cases p <;> rfl

/-! `State.leaveHalt`: the fields it leaves -/

@[simp] theorem State.leaveHalt_af (s : State) : (s.leaveHalt).af = s.af := by simp only [State.leaveHalt]; split <;> rfl
@[simp] theorem State.leaveHalt_bc (s : State) : (s.leaveHalt).bc = s.bc := by simp only [State.leaveHalt]; split <;> rfl
@[simp] theorem State.leaveHalt_de (s : State) : (s.leaveHalt).de = s.de := by simp only [State.leaveHalt]; split <;> rfl
@[simp] theorem State.leaveHalt_hl (s : State) : (s.leaveHalt).hl = s.hl := by simp only [State.leaveHalt]; split <;> rfl
@[simp] theorem State.leaveHalt_afAlt (s : State) : (s.leaveHalt).afAlt = s.afAlt := by simp only [State.leaveHalt]; split <;> rfl
@[simp] theorem State.leaveHalt_bcAlt (s : State) : (s.leaveHalt).bcAlt = s.bcAlt := by simp only [State.leaveHalt]; split <;> rfl
@[simp] theorem State.leaveHalt_deAlt (s : State) : (s.leaveHalt).deAlt = s.deAlt := by simp only [State.leaveHalt]; split <;> rfl
@[simp] theorem State.leaveHalt_hlAlt (s : State) : (s.leaveHalt).hlAlt = s.hlAlt := by simp only [State.leaveHalt]; split <;> rfl
@[simp] theorem State.leaveHalt_ix (s : State) : (s.leaveHalt).ix = s.ix := by simp only [State.leaveHalt]; split <;> rfl
@[simp] theorem State.leaveHalt_iy (s : State) : (s.leaveHalt).iy = s.iy := by simp only [State.leaveHalt]; split <;> rfl
@[simp] theorem State.leaveHalt_sp (s : State) : (s.leaveHalt).sp = s.sp := by simp only [State.leaveHalt]; split <;> rfl
@[simp] theorem State.leaveHalt_wz (s : State) : (s.leaveHalt).wz = s.wz := by simp only [State.leaveHalt]; split <;> rfl
@[simp] theorem State.leaveHalt_i (s : State) : (s.leaveHalt).i = s.i := by simp only [State.leaveHalt]; split <;> rfl
@[simp] theorem State.leaveHalt_r (s : State) : (s.leaveHalt).r = s.r := by simp only [State.leaveHalt]; split <;> rfl
@[simp] theorem State.leaveHalt_iff1 (s : State) : (s.leaveHalt).iff1 = s.iff1 := by simp only [State.leaveHalt]; split <;> rfl
@[simp] theorem State.leaveHalt_iff2 (s : State) : (s.leaveHalt).iff2 = s.iff2 := by simp only [State.leaveHalt]; split <;> rfl
@[simp] theorem State.leaveHalt_im (s : State) : (s.leaveHalt).im = s.im := by simp only [State.leaveHalt]; split <;> rfl
@[simp] theorem State.leaveHalt_resetSig (s : State) : (s.leaveHalt).resetSig = s.resetSig := by simp only [State.leaveHalt]; split <;> rfl
@[simp] theorem State.leaveHalt_nmi (s : State) : (s.leaveHalt).nmi = s.nmi := by simp only [State.leaveHalt]; split <;> rfl
@[simp] theorem State.leaveHalt_int (s : State) : (s.leaveHalt).int = s.int := by simp only [State.leaveHalt]; split <;> rfl
@[simp] theorem State.leaveHalt_dec (s : State) : (s.leaveHalt).dec = s.dec := by simp only [State.leaveHalt]; split <;> rfl
@[simp] theorem State.leaveHalt_intBlocked (s : State) : (s.leaveHalt).intBlocked = s.intBlocked := by simp only [State.leaveHalt]; split <;> rfl
@[simp] theorem State.leaveHalt_opcode (s : State) : (s.leaveHalt).opcode = s.opcode := by simp only [State.leaveHalt]; split <;> rfl
@[simp] theorem State.leaveHalt_instrBytes (s : State) : (s.leaveHalt).instrBytes = s.instrBytes := by simp only [State.leaveHalt]; split <;> rfl
@[simp] theorem State.leaveHalt_instrStart (s : State) : (s.leaveHalt).instrStart = s.instrStart := by simp only [State.leaveHalt]; split <;> rfl
@[simp] theorem State.leaveHalt_prevPC (s : State) : (s.leaveHalt).prevPC = s.prevPC := by simp only [State.leaveHalt]; split <;> rfl
@[simp] theorem State.leaveHalt_ticks (s : State) : (s.leaveHalt).ticks = s.ticks := by simp only [State.leaveHalt]; split <;> rfl
@[simp] theorem State.leaveHalt_mem (s : State) : (s.leaveHalt).mem = s.mem := by simp only [State.leaveHalt]; split <;> rfl
@[simp] theorem State.leaveHalt_deviceCalls (s : State) : (s.leaveHalt).deviceCalls = s.deviceCalls := by simp only [State.leaveHalt]; split <;> rfl
@[simp] theorem State.leaveHalt_portDraws (s : State) : (s.leaveHalt).portDraws = s.portDraws := by simp only [State.leaveHalt]; split <;> rfl
@[simp] theorem State.leaveHalt_cfg (s : State) : (s.leaveHalt).cfg = s.cfg := by simp only [State.leaveHalt]; split <;> rfl
@[simp] theorem State.leaveHalt_read (s : State) (x : Word) : (s.leaveHalt).read x = s.read x := by simp only [State.leaveHalt]; split <;> rfl
@[simp] theorem State.leaveHalt_portIn (s : State) (x : Word) : (s.leaveHalt).portIn x = s.portIn x := by simp only [State.leaveHalt]; split <;> rfl

/-! `State.extRegWrite`: the fields it leaves -/

@[simp] theorem State.extRegWrite_af (s : State) (a v : Byte) : (s.extRegWrite a v).af = s.af := by simp only [State.extRegWrite]; split <;> rfl
@[simp] theorem State.extRegWrite_bc (s : State) (a v : Byte) : (s.extRegWrite a v).bc = s.bc := by simp only [State.extRegWrite]; split <;> rfl
@[simp] theorem State.extRegWrite_de (s : State) (a v : Byte) : (s.extRegWrite a v).de = s.de := by simp only [State.extRegWrite]; split <;> rfl
@[simp] theorem State.extRegWrite_hl (s : State) (a v : Byte) : (s.extRegWrite a v).hl = s.hl := by simp only [State.extRegWrite]; split <;> rfl
@[simp] theorem State.extRegWrite_afAlt (s : State) (a v : Byte) : (s.extRegWrite a v).afAlt = s.afAlt := by simp only [State.extRegWrite]; split <;> rfl
@[simp] theorem State.extRegWrite_bcAlt (s : State) (a v : Byte) : (s.extRegWrite a v).bcAlt = s.bcAlt := by simp only [State.extRegWrite]; split <;> rfl
@[simp] theorem State.extRegWrite_deAlt (s : State) (a v : Byte) : (s.extRegWrite a v).deAlt = s.deAlt := by simp only [State.extRegWrite]; split <;> rfl
@[simp] theorem State.extRegWrite_hlAlt (s : State) (a v : Byte) : (s.extRegWrite a v).hlAlt = s.hlAlt := by simp only [State.extRegWrite]; split <;> rfl
@[simp] theorem State.extRegWrite_ix (s : State) (a v : Byte) : (s.extRegWrite a v).ix = s.ix := by simp only [State.extRegWrite]; split <;> rfl
@[simp] theorem State.extRegWrite_iy (s : State) (a v : Byte) : (s.extRegWrite a v).iy = s.iy := by simp only [State.extRegWrite]; split <;> rfl
@[simp] theorem State.extRegWrite_sp (s : State) (a v : Byte) : (s.extRegWrite a v).sp = s.sp := by simp only [State.extRegWrite]; split <;> rfl
@[simp] theorem State.extRegWrite_pc (s : State) (a v : Byte) : (s.extRegWrite a v).pc = s.pc := by simp only [State.extRegWrite]; split <;> rfl
@[simp] theorem State.extRegWrite_wz (s : State) (a v : Byte) : (s.extRegWrite a v).wz = s.wz := by simp only [State.extRegWrite]; split <;> rfl
@[simp] theorem State.extRegWrite_i (s : State) (a v : Byte) : (s.extRegWrite a v).i = s.i := by simp only [State.extRegWrite]; split <;> rfl
@[simp] theorem State.extRegWrite_r (s : State) (a v : Byte) : (s.extRegWrite a v).r = s.r := by simp only [State.extRegWrite]; split <;> rfl
@[simp] theorem State.extRegWrite_iff1 (s : State) (a v : Byte) : (s.extRegWrite a v).iff1 = s.iff1 := by simp only [State.extRegWrite]; split <;> rfl
@[simp] theorem State.extRegWrite_iff2 (s : State) (a v : Byte) : (s.extRegWrite a v).iff2 = s.iff2 := by simp only [State.extRegWrite]; split <;> rfl
@[simp] theorem State.extRegWrite_im (s : State) (a v : Byte) : (s.extRegWrite a v).im = s.im := by simp only [State.extRegWrite]; split <;> rfl
@[simp] theorem State.extRegWrite_resetSig (s : State) (a v : Byte) : (s.extRegWrite a v).resetSig = s.resetSig := by simp only [State.extRegWrite]; split <;> rfl
@[simp] theorem State.extRegWrite_halted (s : State) (a v : Byte) : (s.extRegWrite a v).halted = s.halted := by simp only [State.extRegWrite]; split <;> rfl
@[simp] theorem State.extRegWrite_nmi (s : State) (a v : Byte) : (s.extRegWrite a v).nmi = s.nmi := by simp only [State.extRegWrite]; split <;> rfl
@[simp] theorem State.extRegWrite_int (s : State) (a v : Byte) : (s.extRegWrite a v).int = s.int := by simp only [State.extRegWrite]; split <;> rfl
@[simp] theorem State.extRegWrite_dec (s : State) (a v : Byte) : (s.extRegWrite a v).dec = s.dec := by simp only [State.extRegWrite]; split <;> rfl
@[simp] theorem State.extRegWrite_intBlocked (s : State) (a v : Byte) : (s.extRegWrite a v).intBlocked = s.intBlocked := by simp only [State.extRegWrite]; split <;> rfl
@[simp] theorem State.extRegWrite_opcode (s : State) (a v : Byte) : (s.extRegWrite a v).opcode = s.opcode := by simp only [State.extRegWrite]; split <;> rfl
@[simp] theorem State.extRegWrite_instrBytes (s : State) (a v : Byte) : (s.extRegWrite a v).instrBytes = s.instrBytes := by simp only [State.extRegWrite]; split <;> rfl
@[simp] theorem State.extRegWrite_instrStart (s : State) (a v : Byte) : (s.extRegWrite a v).instrStart = s.instrStart := by simp only [State.extRegWrite]; split <;> rfl
@[simp] theorem State.extRegWrite_prevPC (s : State) (a v : Byte) : (s.extRegWrite a v).prevPC = s.prevPC := by simp only [State.extRegWrite]; split <;> rfl
@[simp] theorem State.extRegWrite_ticks (s : State) (a v : Byte) : (s.extRegWrite a v).ticks = s.ticks := by simp only [State.extRegWrite]; split <;> rfl
@[simp] theorem State.extRegWrite_mem (s : State) (a v : Byte) : (s.extRegWrite a v).mem = s.mem := by simp only [State.extRegWrite]; split <;> rfl
@[simp] theorem State.extRegWrite_portDraws (s : State) (a v : Byte) : (s.extRegWrite a v).portDraws = s.portDraws := by simp only [State.extRegWrite]; split <;> rfl
@[simp] theorem State.extRegWrite_cfg (s : State) (a v : Byte) : (s.extRegWrite a v).cfg = s.cfg := by simp only [State.extRegWrite]; split <;> rfl

/-! `State.markStart`: the fields it leaves -/

@[simp] theorem State.markStart_af (s : State) : (s.markStart).af = s.af := by simp only [State.markStart]; split <;> rfl
@[simp] theorem State.markStart_bc (s : State) : (s.markStart).bc = s.bc := by simp only [State.markStart]; split <;> rfl
@[simp] theorem State.markStart_de (s : State) : (s.markStart).de = s.de := by simp only [State.markStart]; split <;> rfl
@[simp] theorem State.markStart_hl (s : State) : (s.markStart).hl = s.hl := by simp only [State.markStart]; split <;> rfl
@[simp] theorem State.markStart_afAlt (s : State) : (s.markStart).afAlt = s.afAlt := by simp only [State.markStart]; split <;> rfl
@[simp] theorem State.markStart_bcAlt (s : State) : (s.markStart).bcAlt = s.bcAlt := by simp only [State.markStart]; split <;> rfl
@[simp] theorem State.markStart_deAlt (s : State) : (s.markStart).deAlt = s.deAlt := by simp only [State.markStart]; split <;> rfl
@[simp] theorem State.markStart_hlAlt (s : State) : (s.markStart).hlAlt = s.hlAlt := by simp only [State.markStart]; split <;> rfl
@[simp] theorem State.markStart_ix (s : State) : (s.markStart).ix = s.ix := by simp only [State.markStart]; split <;> rfl
@[simp] theorem State.markStart_iy (s : State) : (s.markStart).iy = s.iy := by simp only [State.markStart]; split <;> rfl
@[simp] theorem State.markStart_sp (s : State) : (s.markStart).sp = s.sp := by simp only [State.markStart]; split <;> rfl
@[simp] theorem State.markStart_pc (s : State) : (s.markStart).pc = s.pc := by simp only [State.markStart]; split <;> rfl
@[simp] theorem State.markStart_wz (s : State) : (s.markStart).wz = s.wz := by simp only [State.markStart]; split <;> rfl
@[simp] theorem State.markStart_i (s : State) : (s.markStart).i = s.i := by simp only [State.markStart]; split <;> rfl
@[simp] theorem State.markStart_r (s : State) : (s.markStart).r = s.r := by simp only [State.markStart]; split <;> rfl
@[simp] theorem State.markStart_iff1 (s : State) : (s.markStart).iff1 = s.iff1 := by simp only [State.markStart]; split <;> rfl
@[simp] theorem State.markStart_iff2 (s : State) : (s.markStart).iff2 = s.iff2 := by simp only [State.markStart]; split <;> rfl
@[simp] theorem State.markStart_im (s : State) : (s.markStart).im = s.im := by simp only [State.markStart]; split <;> rfl
@[simp] theorem State.markStart_resetSig (s : State) : (s.markStart).resetSig = s.resetSig := by simp only [State.markStart]; split <;> rfl
@[simp] theorem State.markStart_halted (s : State) : (s.markStart).halted = s.halted := by simp only [State.markStart]; split <;> rfl
@[simp] theorem State.markStart_nmi (s : State) : (s.markStart).nmi = s.nmi := by simp only [State.markStart]; split <;> rfl
@[simp] theorem State.markStart_int (s : State) : (s.markStart).int = s.int := by simp only [State.markStart]; split <;> rfl
@[simp] theorem State.markStart_dec (s : State) : (s.markStart).dec = s.dec := by simp only [State.markStart]; split <;> rfl
@[simp] theorem State.markStart_intBlocked (s : State) : (s.markStart).intBlocked = s.intBlocked := by simp only [State.markStart]; split <;> rfl
@[simp] theorem State.markStart_opcode (s : State) : (s.markStart).opcode = s.opcode := by simp only [State.markStart]; split <;> rfl
@[simp] theorem State.markStart_instrBytes (s : State) : (s.markStart).instrBytes = s.instrBytes := by simp only [State.markStart]; split <;> rfl
@[simp] theorem State.markStart_prevPC (s : State) : (s.markStart).prevPC = s.prevPC := by simp only [State.markStart]; split <;> rfl
@[simp] theorem State.markStart_ticks (s : State) : (s.markStart).ticks = s.ticks := by simp only [State.markStart]; split <;> rfl
@[simp] theorem State.markStart_mem (s : State) : (s.markStart).mem = s.mem := by simp only [State.markStart]; split <;> rfl
@[simp] theorem State.markStart_deviceCalls (s : State) : (s.markStart).deviceCalls = s.deviceCalls := by simp only [State.markStart]; split <;> rfl
@[simp] theorem State.markStart_portDraws (s : State) : (s.markStart).portDraws = s.portDraws := by simp only [State.markStart]; split <;> rfl
@[simp] theorem State.markStart_cfg (s : State) : (s.markStart).cfg = s.cfg := by simp only [State.markStart]; split <;> rfl
@[simp] theorem State.markStart_read (s : State) (x : Word) : (s.markStart).read x = s.read x := by simp only [State.markStart]; split <;> rfl
@[simp] theorem State.markStart_portIn (s : State) (x : Word) : (s.markStart).portIn x = s.portIn x := by simp only [State.markStart]; split <;> rfl

end Sys2Proof.Machine
end

