-- ==== Sys2Proof/Laws/Ops.lean ====
section
/-! SUPPORT. What each shared operation can do, said once: memory and stack, the refresh update, the flag functions in the
terms of Safety.lean, the services' parts, and the two ways a call goes. -/

namespace Sys2Proof.Machine

/-! ### Memory and stack -/

theorem State.storesByte_write (s : State) (a : Word) (v : Byte) (h : s.mem.wf = true) :
    s.storesByte (s.write a v) a v := by
  unfold State.storesByte
  split
  · rename_i hr
    exact ⟨State.read_write_same s a v hr h, fun _ hb => State.read_write_other s a _ v hr hb⟩
  · rename_i hr
    simp only [State.write_mem, State.memWith, hr]

theorem Word.add_one_ne (a : Word) : a + 1 ≠ a := by bv_omega

theorem State.storesWord_write16 (s : State) (a v : Word) (h : s.mem.wf = true) : s.storesWord (s.write16 a v) a v := by
  unfold State.storesWord
  split
  · rename_i hr
    have hr2 : (s.write a (loByte v)).cfg.memDevice = .ram := hr
    refine ⟨?_, State.read_write_same _ _ _ hr2 (State.wf_write _ _ _ h), fun b hb hc => ?_⟩
    · rw [State.write16, State.read_write_other _ _ _ _ hr2 (Word.add_one_ne a).symm, State.read_write_same _ _ _ hr h]
    · rw [State.write16, State.read_write_other _ _ _ _ hr2 hc, State.read_write_other _ _ _ _ hr hb]
  · rename_i hr
    simp only [State.write16, State.write_mem, State.memWith, State.write_cfg, hr]

theorem State.storesWord_push16 (s : State) (v : Word) (h : s.mem.wf = true) :
    s.storesWord (s.push16 v) (s.sp - 2) v := by
  unfold State.storesWord
  split
  · rename_i hr
    have e : s.sp - 2 + 1 = s.sp - 1 := by bv_omega
    have ne : s.sp - 1 ≠ s.sp - 2 := by bv_omega
    have hr2 : (s.write (s.sp - 1) (hiByte v)).cfg.memDevice = .ram := hr
    refine ⟨State.read_write_same (s.write (s.sp - 1) (hiByte v)) _ _ hr2 (State.wf_write _ _ _ h), ?_, fun b hb hc => ?_⟩
    · show ((s.write (s.sp - 1) (hiByte v)).write (s.sp - 2) (loByte v)).read (s.sp - 2 + 1) = hiByte v
      rw [e, State.read_write_other _ _ _ _ hr2 ne, State.read_write_same _ _ _ hr h]
    · show ((s.write (s.sp - 1) (hiByte v)).write (s.sp - 2) (loByte v)).read b = s.read b
      rw [e] at hc
      rw [State.read_write_other _ _ _ _ hr2 hb, State.read_write_other _ _ _ _ hr hc]
  · rename_i hr
    show (((s.write (s.sp - 1) (hiByte v)).write (s.sp - 2) (loByte v))).mem = s.mem
    simp only [State.write_mem, State.memWith, State.write_cfg, hr]

/-- A word read is its two bytes, the low byte read first. -/
theorem State.toNat_read16 (s : State) (a : Word) : (s.read16 a).toNat = s.wordAt a := by
  rw [State.read16, toNat_joinBytes, Nat.add_comm]; rfl

/-- With the default RAM, what was pushed is at the top of the stack. -/
theorem State.stackTop_push16 (s : State) (v : Word) (hr : s.cfg.memDevice = .ram) (h : s.mem.wf = true) :
    (s.push16 v).stackTop = v := by
  have hs := s.storesWord_push16 v h
  simp only [State.storesWord, hr] at hs
  rw [State.stackTop, State.push16_sp, State.read16, State.read_afterRead (s := s.push16 v) hr, hs.1, hs.2.1,
    joinBytes_hi_lo]

/-- A push changes SP, memory and the record of device calls only. -/
theorem State.push16_frame (s : State) (v : Word) :
    s.push16 v = { s with mem := (s.push16 v).mem, sp := s.sp - 2, deviceCalls := pushWrites s.sp v ++ s.deviceCalls } := rfl

/-! ### The record of device calls -/

theorem State.ramConsistent_afterRead (s : State) (a : Word) (hr : s.cfg.memDevice = .ram) (h : s.ramConsistent) :
    (s.afterRead a).ramConsistent :=
  ⟨⟨fun w hw => h.2 a w hw, h.1⟩, fun b v hv => (State.read_afterRead hr a b).trans (h.2 b v hv)⟩

theorem State.ramConsistent_write (s : State) (a : Word) (v : Byte) (hr : s.cfg.memDevice = .ram) (hw : s.mem.wf = true)
    (h : s.ramConsistent) : (s.write a v).ramConsistent := by
  refine ⟨h.1, fun b w hb => ?_⟩
  simp only [State.write_deviceCalls, latestWrite] at hb
  split at hb
  · cases hb; subst_vars; exact State.read_write_same s _ _ hr hw
  · rename_i hab
    exact (State.read_write_other s a b v hr (Ne.symm hab)).trans (h.2 b w hb)

/-- What an update that touches neither memory nor a device leaves of it. -/
theorem State.ramConsistent_congr {s t : State} (hr : s.cfg.memDevice = .ram) (hc : t.cfg = s.cfg) (hm : t.mem = s.mem)
    (hd : t.deviceCalls = s.deviceCalls) (h : s.ramConsistent) : t.ramConsistent := by
  refine ⟨by rw [hd]; exact h.1, fun a v hv => ?_⟩
  rw [State.read_ram (hc ▸ hr), hm, ← State.read_ram hr]
  exact h.2 a v (by rw [← hd]; exact hv)

/-- A call to another device is none of the memory's. -/
theorem State.ramConsistent_called {s : State} {c : DeviceCall} (hr : s.cfg.memDevice = .ram)
    (hc : c.isPort = true ∨ c.isExtReg = true) (h : s.ramConsistent) : (s.called c).ramConsistent := by
  cases c with
  | memRead a v => simp [DeviceCall.isPort, DeviceCall.isExtReg] at hc
  | memWrite a v => simp [DeviceCall.isPort, DeviceCall.isExtReg] at hc
  | portRead p v => exact ⟨h.1, fun a w hw => (State.read_called hr _ a).trans (h.2 a w hw)⟩
  | portWrite p v => exact ⟨h.1, fun a w hw => (State.read_called hr _ a).trans (h.2 a w hw)⟩
  | extSelect r => exact ⟨h.1, fun a w hw => (State.read_called hr _ a).trans (h.2 a w hw)⟩
  | extSetValue v => exact ⟨h.1, fun a w hw => (State.read_called hr _ a).trans (h.2 a w hw)⟩

/-! ### The refresh update -/

theorem toNat_refreshNext (r : Byte) : (refreshNext r).toNat = refreshedBy 1 r := by
  revert r; decide

/-! ### Flags -/

theorem parity_eq (v : Byte) : parity v = evenOnes v := by
  revert v; decide

theorem decide_toNat_zero {n : Nat} (v : BitVec n) : (v == 0) = decide (v.toNat = 0) := by
  rw [Bool.eq_iff_iff, beq_iff_eq, decide_eq_true_eq]
  exact ⟨fun h => by rw [h]; simp, fun h => BitVec.eq_of_toNat_eq (by simpa using h)⟩

theorem getLsbD_seven (v : Byte) : v.getLsbD 7 = decide (128 ≤ v.toNat) := by
  revert v; decide

theorem getLsbD_fifteen (v : Word) : v.getLsbD 15 = decide (32768 ≤ v.toNat) := by
  have := BitVec.msb_eq_decide v
  rwa [BitVec.msb_eq_getLsbD_last] at this

theorem flagsOf_szxyWith (v : Byte) (h pv n c : Bool) : flagsOf (szxyWith v h pv n c) v := by
  simp only [flagsOf, szxyWith, fS_flagByte, fZ_flagByte, fY_flagByte, fX_flagByte, decide_toNat_zero, getLsbD_seven,
    and_self]

theorem flagsOf16_szxyWith16 (v : Word) (h pv n c : Bool) : flagsOf16 (szxyWith16 v h pv n c) v := by
  simp only [flagsOf16, szxyWith16, fS_flagByte, fZ_flagByte, fY_flagByte, fX_flagByte, decide_toNat_zero,
    getLsbD_fifteen, and_self]

/-- Masking with 2^k - 1 is the remainder. -/
theorem toNat_and_low (v : Byte) : (v &&& 0x0F).toNat = v.toNat % 16 := by
  revert v; decide

theorem toNat_and_low12 (v : Word) : (v &&& 0x0FFF).toNat = v.toNat % 4096 := by
  rw [BitVec.toNat_and]; exact Nat.and_two_pow_sub_one_eq_mod v.toNat 12

theorem stepFlagsTo_inc8 (v f : Byte) : stepFlagsTo false v f (inc8 v f).2 := by
  refine ⟨flagsOf_szxyWith _ _ _ _ _, ?_, ?_, ?_, ?_⟩
  · simp only [inc8, szxyWith, fH_flagByte]; revert v; decide
  · simp only [inc8, szxyWith, fPV_flagByte]; revert v; decide
  · simp only [inc8, szxyWith, fN_flagByte]
  · simp only [inc8, szxyWith, fC_flagByte]

theorem stepFlagsTo_dec8 (v f : Byte) : stepFlagsTo true v f (dec8 v f).2 := by
  refine ⟨flagsOf_szxyWith _ _ _ _ _, ?_, ?_, ?_, ?_⟩
  · simp only [dec8, szxyWith, fH_flagByte]; revert v; decide
  · simp only [dec8, szxyWith, fPV_flagByte]; revert v; decide
  · simp only [dec8, szxyWith, fN_flagByte]
  · simp only [dec8, szxyWith, fC_flagByte]

theorem rotatesTo_rotOp (k : RotKind) (v f : Byte) : rotatesTo k v f (rotOp k v f).1 (rotOp k v f).2 := by
  refine ⟨?_, ?_, ?_, ?_, ?_, ?_⟩
  · simp only [rotOp]; cases fC f <;> cases k <;> revert v <;> decide
  · simp only [rotOp]; exact flagsOf_szxyWith _ _ _ _ _
  · simp only [rotOp, szxypWith, szxyWith, fPV_flagByte]; exact parity_eq _
  · simp only [rotOp, szxypWith, szxyWith, fH_flagByte]
  · simp only [rotOp, szxypWith, szxyWith, fN_flagByte]
  · simp only [rotOp, szxypWith, szxyWith, fC_flagByte]; cases fC f <;> cases k <;> revert v <;> decide

theorem bitTestFlagsTo_bitFlags (b : BitVec 3) (v xy f : Byte) : bitTestFlagsTo b v xy f (bitFlags b v xy f) := by
  simp only [bitTestFlagsTo, bitFlags, fS_flagByte, fZ_flagByte, fY_flagByte, fH_flagByte, fX_flagByte, fPV_flagByte,
    fN_flagByte, fC_flagByte, and_true, true_and]
  by_cases h : b = 7
  · subst h; rfl
  · rw [beq_eq_false_iff_ne.mpr h, decide_eq_false h, Bool.false_and, Bool.false_and]

theorem blockIoFlagsTo_bioFlags (v b : Byte) (k : Nat) : blockIoFlagsTo v b k (bioFlags v b k) := by
  simp only [blockIoFlagsTo, bioFlags, szxyWith, fS_flagByte, fZ_flagByte, fY_flagByte, fH_flagByte, fX_flagByte,
    fPV_flagByte, fN_flagByte, fC_flagByte, parity_eq, gt_iff_lt, and_true, true_and]
  rfl

/-- ADD8 in integer arithmetic: the sum, the carries, and PV as signed overflow (R143, R154). -/
theorem add8_spec (a b : Byte) (cin : Bool) :
    (add8 a b cin).1.toNat = (a.toNat + b.toNat + cin.toNat) % 256 ∧
    flagsOf (add8 a b cin).2 (add8 a b cin).1 ∧
    fH (add8 a b cin).2 = decide (15 < a.toNat % 16 + b.toNat % 16 + cin.toNat) ∧
    fPV (add8 a b cin).2 = decide (a.toInt + b.toInt + cin.toNat < -128 ∨ 127 < a.toInt + b.toInt + cin.toNat) ∧
    fN (add8 a b cin).2 = false ∧ fC (add8 a b cin).2 = decide (255 < a.toNat + b.toNat + cin.toNat) := by
  have hc : cin.toNat ≤ 1 := Bool.toNat_le cin
  refine ⟨by simp [add8], flagsOf_szxyWith _ _ _ _ _, ?_, ?_, by simp [add8, szxyWith], ?_⟩
  · simp only [add8, szxyWith, fH_flagByte, toNat_and_low, gt_iff_lt]
  · simp only [add8, szxyWith, fPV_flagByte, getLsbD_seven, BitVec.toInt_eq_toNat_cond, BitVec.toNat_ofNat]
    have := a.isLt; have := b.isLt
    rw [Bool.eq_iff_iff]
    simp only [Bool.and_eq_true, beq_iff_eq, bne_iff_ne, ne_eq, decide_eq_decide, decide_eq_true_eq]
    split <;> split <;> omega
  · simp only [add8, szxyWith, fC_flagByte, ge_iff_le]; rfl

/-- SUB8 in integer arithmetic (R144, R154). -/
theorem sub8_spec (a b : Byte) (cin : Bool) :
    (sub8 a b cin).1.toNat = (512 + a.toNat - b.toNat - cin.toNat) % 256 ∧
    flagsOf (sub8 a b cin).2 (sub8 a b cin).1 ∧
    fH (sub8 a b cin).2 = decide (a.toNat % 16 < b.toNat % 16 + cin.toNat) ∧
    fPV (sub8 a b cin).2 = decide (a.toInt - b.toInt - cin.toNat < -128 ∨ 127 < a.toInt - b.toInt - cin.toNat) ∧
    fN (sub8 a b cin).2 = true ∧ fC (sub8 a b cin).2 = decide (a.toNat < b.toNat + cin.toNat) := by
  have hc : cin.toNat ≤ 1 := Bool.toNat_le cin
  have ha := a.isLt
  have hb := b.isLt
  have e : (sub8 a b cin).1.toNat = (512 + a.toNat - b.toNat - cin.toNat) % 256 := by
    simp only [sub8, BitVec.toNat_ofInt]; omega
  refine ⟨e, flagsOf_szxyWith _ _ _ _ _, ?_, ?_, by simp [sub8, szxyWith], ?_⟩
  · simp only [sub8, szxyWith, fH_flagByte, toNat_and_low]; rw [decide_eq_decide]; omega
  · have e' : (BitVec.ofInt 8 ((a.toNat : Int) - b.toNat - cin.toNat)).toNat =
      (512 + a.toNat - b.toNat - cin.toNat) % 256 := e
    simp only [sub8, szxyWith, fPV_flagByte, getLsbD_seven, BitVec.toInt_eq_toNat_cond, e']
    rw [Bool.eq_iff_iff]
    simp only [Bool.and_eq_true, bne_iff_ne, ne_eq, decide_eq_decide, decide_eq_true_eq]
    split <;> split <;> omega
  · simp only [sub8, szxyWith, fC_flagByte]; rw [decide_eq_decide]; omega

/-! ### Services and calls -/

/-- Leaving the halt touches HALTED and PC only (R494). -/
theorem State.leaveHalt_eq (s : State) :
    s.leaveHalt = { s with halted := false, pc := if s.halted then s.pc + 1 else s.pc } := by
  unfold State.leaveHalt
  cases h : s.halted
  · rw [if_neg (by simp), if_neg (by simp), ← h]
  · rfl

/-- The two ways a call goes (R101): a service alone, or the fetched instruction. -/
theorem step_cases {s t : State} (h : step s = .next t) :
    (∃ v, s.pendingService = some v ∧ t = s.serve v) ∨
    (s.pendingService = none ∧ ∃ u, exec s.currentInstr s.fetched = .next u ∧ t = s.endCall u) := by
  unfold step at h
  split at h
  · rename_i v hv
    exact .inl ⟨v, hv, by cases h; rfl⟩
  · rename_i hv
    refine .inr ⟨hv, ?_⟩
    split at h
    · rename_i u hu
      exact ⟨u, hu, by cases h; rfl⟩
    · cases h
    · cases h

/-- Fetching bytes moves PC, fills the byte buffer and calls the memory device once for each byte, and nothing else. -/
theorem State.fetchBytes_eq (n : Nat) (s : State) :
    ∃ bs, State.fetchBytes n s = { s with
        pc := s.pc + BitVec.ofNat 16 n, instrBytes := s.instrBytes ++ bs
        deviceCalls := fetchReads s.pc bs s.deviceCalls } ∧
      bs.length = n := by
  induction n generalizing s with
  | zero => exact ⟨[], by simp [State.fetchBytes, fetchReads], rfl⟩
  | succ n ih =>
    obtain ⟨bs, h, hl⟩ := ih s.fetchByte
    refine ⟨s.read s.pc :: bs, ?_, by simp [hl]⟩
    rw [State.fetchBytes, h]
    have e : s.pc + 1 + BitVec.ofNat 16 n = s.pc + BitVec.ofNat 16 (n + 1) := by
      rw [BitVec.ofNat_add]; rw [BitVec.add_assoc, BitVec.add_comm 1]; rfl
    simp [State.fetchByte, State.afterRead, State.called, fetchReads]
    exact e

end Sys2Proof.Machine
end

