-- ==== Sys2Proof/Laws/PerInstr.lean ====
section
/-! SUPPORT. Statements about every instruction as syntax, one lemma per constructor. -/

namespace Sys2Proof.Laws.EncodeLength

/-- An encoding has one to four bytes: the shapes of R90. -/
def Statement (i : Instr) : Prop := 1 ≤ (encode i).length ∧ (encode i).length ≤ 4

/-- The two bounds, evaluated. -/
theorem of_le {i : Instr} (h : (Nat.ble 1 (encode i).length && Nat.ble (encode i).length 4) = true) : Statement i := by
  rw [Bool.and_eq_true] at h
  exact ⟨Nat.le_of_ble_eq_true h.1, Nat.le_of_ble_eq_true h.2⟩

theorem ldRR (r : Reg8) (r2 : Reg8) : Statement (.ldRR r r2) := of_le rfl
theorem ldRRX (x : Idx) (r : Reg8) (r2 : Reg8) : Statement (.ldRRX x r r2) := of_le rfl
theorem ldRRXH (x : Idx) (r : Reg8) (r2 : Reg8) : Statement (.ldRRXH x r r2) := of_le rfl
theorem ldRN (r : Reg8) (n : Byte) : Statement (.ldRN r n) := of_le rfl
theorem ldRNX (x : Idx) (r : Reg8) (n : Byte) : Statement (.ldRNX x r n) := of_le rfl
theorem ldXHN (x : Idx) (h : Half) (n : Byte) : Statement (.ldXHN x h n) := of_le rfl
theorem ldRMHl (r : Reg8) : Statement (.ldRMHl r) := of_le rfl
theorem ldRMXd (x : Idx) (r : Reg8) (d : Byte) : Statement (.ldRMXd x r d) := of_le rfl
theorem ldMHlR (r : Reg8) : Statement (.ldMHlR r) := of_le rfl
theorem ldMXdR (x : Idx) (r : Reg8) (d : Byte) : Statement (.ldMXdR x r d) := of_le rfl
theorem ldMHlN (n : Byte) : Statement (.ldMHlN n) := of_le rfl
theorem ldMXdN (x : Idx) (d : Byte) (n : Byte) : Statement (.ldMXdN x d n) := of_le rfl
theorem ldABc : Statement (.ldABc) := of_le rfl
theorem ldABcX (x : Idx) : Statement (.ldABcX x) := of_le rfl
theorem ldADe : Statement (.ldADe) := of_le rfl
theorem ldADeX (x : Idx) : Statement (.ldADeX x) := of_le rfl
theorem ldAMem (nn : Word) : Statement (.ldAMem nn) := of_le rfl
theorem ldAMemX (x : Idx) (nn : Word) : Statement (.ldAMemX x nn) := of_le rfl
theorem ldBcA : Statement (.ldBcA) := of_le rfl
theorem ldBcAX (x : Idx) : Statement (.ldBcAX x) := of_le rfl
theorem ldDeA : Statement (.ldDeA) := of_le rfl
theorem ldDeAX (x : Idx) : Statement (.ldDeAX x) := of_le rfl
theorem ldMemA (nn : Word) : Statement (.ldMemA nn) := of_le rfl
theorem ldMemAX (x : Idx) (nn : Word) : Statement (.ldMemAX x nn) := of_le rfl
theorem ldAI : Statement (.ldAI) := of_le rfl
theorem ldAR : Statement (.ldAR) := of_le rfl
theorem ldIA : Statement (.ldIA) := of_le rfl
theorem ldRA : Statement (.ldRA) := of_le rfl
theorem ldRpNn (p : Rp) (nn : Word) : Statement (.ldRpNn p nn) := of_le rfl
theorem ldRpNnX (x : Idx) (p : Rp) (nn : Word) : Statement (.ldRpNnX x p nn) := of_le rfl
theorem ldXNn (x : Idx) (nn : Word) : Statement (.ldXNn x nn) := of_le rfl
theorem ldHlMem (nn : Word) : Statement (.ldHlMem nn) := of_le rfl
theorem ldXMem (x : Idx) (nn : Word) : Statement (.ldXMem x nn) := of_le rfl
theorem ldRpMem (p : Rp) (nn : Word) : Statement (.ldRpMem p nn) := of_le rfl
theorem ldMemHl (nn : Word) : Statement (.ldMemHl nn) := of_le rfl
theorem ldMemX (x : Idx) (nn : Word) : Statement (.ldMemX x nn) := of_le rfl
theorem ldMemRp (p : Rp) (nn : Word) : Statement (.ldMemRp p nn) := of_le rfl
theorem ldSpHl : Statement (.ldSpHl) := of_le rfl
theorem ldSpX (x : Idx) : Statement (.ldSpX x) := of_le rfl
theorem pushQ (q : Rp2) : Statement (.pushQ q) := of_le rfl
theorem pushQX (x : Idx) (q : Rp2) : Statement (.pushQX x q) := of_le rfl
theorem pushX (x : Idx) : Statement (.pushX x) := of_le rfl
theorem popQ (q : Rp2) : Statement (.popQ q) := of_le rfl
theorem popQX (x : Idx) (q : Rp2) : Statement (.popQX x q) := of_le rfl
theorem popX (x : Idx) : Statement (.popX x) := of_le rfl
theorem exDeHl : Statement (.exDeHl) := of_le rfl
theorem exDeHlX (x : Idx) : Statement (.exDeHlX x) := of_le rfl
theorem exAf : Statement (.exAf) := of_le rfl
theorem exAfX (x : Idx) : Statement (.exAfX x) := of_le rfl
theorem exx : Statement (.exx) := of_le rfl
theorem exxX (x : Idx) : Statement (.exxX x) := of_le rfl
theorem exSpHl : Statement (.exSpHl) := of_le rfl
theorem exSpX (x : Idx) : Statement (.exSpX x) := of_le rfl
theorem ldi : Statement (.ldi) := of_le rfl
theorem ldir : Statement (.ldir) := of_le rfl
theorem ldd : Statement (.ldd) := of_le rfl
theorem lddr : Statement (.lddr) := of_le rfl
theorem cpi : Statement (.cpi) := of_le rfl
theorem cpir : Statement (.cpir) := of_le rfl
theorem cpd : Statement (.cpd) := of_le rfl
theorem cpdr : Statement (.cpdr) := of_le rfl
theorem addR (r : Reg8) : Statement (.addR r) := of_le rfl
theorem addRX (x : Idx) (r : Reg8) : Statement (.addRX x r) := of_le rfl
theorem addXH (x : Idx) (h : Half) : Statement (.addXH x h) := of_le rfl
theorem addN (n : Byte) : Statement (.addN n) := of_le rfl
theorem addNX (x : Idx) (n : Byte) : Statement (.addNX x n) := of_le rfl
theorem addMHl : Statement (.addMHl) := of_le rfl
theorem addMXd (x : Idx) (d : Byte) : Statement (.addMXd x d) := of_le rfl
theorem adcR (r : Reg8) : Statement (.adcR r) := of_le rfl
theorem adcRX (x : Idx) (r : Reg8) : Statement (.adcRX x r) := of_le rfl
theorem adcXH (x : Idx) (h : Half) : Statement (.adcXH x h) := of_le rfl
theorem adcN (n : Byte) : Statement (.adcN n) := of_le rfl
theorem adcNX (x : Idx) (n : Byte) : Statement (.adcNX x n) := of_le rfl
theorem adcMHl : Statement (.adcMHl) := of_le rfl
theorem adcMXd (x : Idx) (d : Byte) : Statement (.adcMXd x d) := of_le rfl
theorem subR (r : Reg8) : Statement (.subR r) := of_le rfl
theorem subRX (x : Idx) (r : Reg8) : Statement (.subRX x r) := of_le rfl
theorem subXH (x : Idx) (h : Half) : Statement (.subXH x h) := of_le rfl
theorem subN (n : Byte) : Statement (.subN n) := of_le rfl
theorem subNX (x : Idx) (n : Byte) : Statement (.subNX x n) := of_le rfl
theorem subMHl : Statement (.subMHl) := of_le rfl
theorem subMXd (x : Idx) (d : Byte) : Statement (.subMXd x d) := of_le rfl
theorem sbcR (r : Reg8) : Statement (.sbcR r) := of_le rfl
theorem sbcRX (x : Idx) (r : Reg8) : Statement (.sbcRX x r) := of_le rfl
theorem sbcXH (x : Idx) (h : Half) : Statement (.sbcXH x h) := of_le rfl
theorem sbcN (n : Byte) : Statement (.sbcN n) := of_le rfl
theorem sbcNX (x : Idx) (n : Byte) : Statement (.sbcNX x n) := of_le rfl
theorem sbcMHl : Statement (.sbcMHl) := of_le rfl
theorem sbcMXd (x : Idx) (d : Byte) : Statement (.sbcMXd x d) := of_le rfl
theorem andR (r : Reg8) : Statement (.andR r) := of_le rfl
theorem andRX (x : Idx) (r : Reg8) : Statement (.andRX x r) := of_le rfl
theorem andXH (x : Idx) (h : Half) : Statement (.andXH x h) := of_le rfl
theorem andN (n : Byte) : Statement (.andN n) := of_le rfl
theorem andNX (x : Idx) (n : Byte) : Statement (.andNX x n) := of_le rfl
theorem andMHl : Statement (.andMHl) := of_le rfl
theorem andMXd (x : Idx) (d : Byte) : Statement (.andMXd x d) := of_le rfl
theorem xorR (r : Reg8) : Statement (.xorR r) := of_le rfl
theorem xorRX (x : Idx) (r : Reg8) : Statement (.xorRX x r) := of_le rfl
theorem xorXH (x : Idx) (h : Half) : Statement (.xorXH x h) := of_le rfl
theorem xorN (n : Byte) : Statement (.xorN n) := of_le rfl
theorem xorNX (x : Idx) (n : Byte) : Statement (.xorNX x n) := of_le rfl
theorem xorMHl : Statement (.xorMHl) := of_le rfl
theorem xorMXd (x : Idx) (d : Byte) : Statement (.xorMXd x d) := of_le rfl
theorem orR (r : Reg8) : Statement (.orR r) := of_le rfl
theorem orRX (x : Idx) (r : Reg8) : Statement (.orRX x r) := of_le rfl
theorem orXH (x : Idx) (h : Half) : Statement (.orXH x h) := of_le rfl
theorem orN (n : Byte) : Statement (.orN n) := of_le rfl
theorem orNX (x : Idx) (n : Byte) : Statement (.orNX x n) := of_le rfl
theorem orMHl : Statement (.orMHl) := of_le rfl
theorem orMXd (x : Idx) (d : Byte) : Statement (.orMXd x d) := of_le rfl
theorem cpR (r : Reg8) : Statement (.cpR r) := of_le rfl
theorem cpRX (x : Idx) (r : Reg8) : Statement (.cpRX x r) := of_le rfl
theorem cpXH (x : Idx) (h : Half) : Statement (.cpXH x h) := of_le rfl
theorem cpN (n : Byte) : Statement (.cpN n) := of_le rfl
theorem cpNX (x : Idx) (n : Byte) : Statement (.cpNX x n) := of_le rfl
theorem cpMHl : Statement (.cpMHl) := of_le rfl
theorem cpMXd (x : Idx) (d : Byte) : Statement (.cpMXd x d) := of_le rfl
theorem incR (r : Reg8) : Statement (.incR r) := of_le rfl
theorem incRX (x : Idx) (r : Reg8) : Statement (.incRX x r) := of_le rfl
theorem incXH (x : Idx) (h : Half) : Statement (.incXH x h) := of_le rfl
theorem incMHl : Statement (.incMHl) := of_le rfl
theorem incMXd (x : Idx) (d : Byte) : Statement (.incMXd x d) := of_le rfl
theorem decR (r : Reg8) : Statement (.decR r) := of_le rfl
theorem decRX (x : Idx) (r : Reg8) : Statement (.decRX x r) := of_le rfl
theorem decXH (x : Idx) (h : Half) : Statement (.decXH x h) := of_le rfl
theorem decMHl : Statement (.decMHl) := of_le rfl
theorem decMXd (x : Idx) (d : Byte) : Statement (.decMXd x d) := of_le rfl
theorem daa : Statement (.daa) := of_le rfl
theorem daaX (x : Idx) : Statement (.daaX x) := of_le rfl
theorem cpl : Statement (.cpl) := of_le rfl
theorem cplX (x : Idx) : Statement (.cplX x) := of_le rfl
theorem neg (y : BitVec 3) : Statement (.neg y) := of_le rfl
theorem ccf : Statement (.ccf) := of_le rfl
theorem ccfX (x : Idx) : Statement (.ccfX x) := of_le rfl
theorem scf : Statement (.scf) := of_le rfl
theorem scfX (x : Idx) : Statement (.scfX x) := of_le rfl
theorem nop : Statement (.nop) := of_le rfl
theorem nopX (x : Idx) : Statement (.nopX x) := of_le rfl
theorem halt : Statement (.halt) := of_le rfl
theorem haltX (x : Idx) : Statement (.haltX x) := of_le rfl
theorem di : Statement (.di) := of_le rfl
theorem diX (x : Idx) : Statement (.diX x) := of_le rfl
theorem ei : Statement (.ei) := of_le rfl
theorem eiX (x : Idx) : Statement (.eiX x) := of_le rfl
theorem im (y : BitVec 3) : Statement (.im y) := of_le rfl
theorem extNoop (op : Byte) : Statement (.extNoop op) := of_le rfl
theorem addHlRp (p : Rp) : Statement (.addHlRp p) := of_le rfl
theorem addXRp (x : Idx) (p : Rp) : Statement (.addXRp x p) := of_le rfl
theorem adcHlRp (p : Rp) : Statement (.adcHlRp p) := of_le rfl
theorem sbcHlRp (p : Rp) : Statement (.sbcHlRp p) := of_le rfl
theorem incRp (p : Rp) : Statement (.incRp p) := of_le rfl
theorem incRpX (x : Idx) (p : Rp) : Statement (.incRpX x p) := of_le rfl
theorem incX (x : Idx) : Statement (.incX x) := of_le rfl
theorem decRp (p : Rp) : Statement (.decRp p) := of_le rfl
theorem decRpX (x : Idx) (p : Rp) : Statement (.decRpX x p) := of_le rfl
theorem decX (x : Idx) : Statement (.decX x) := of_le rfl
theorem rlca : Statement (.rlca) := of_le rfl
theorem rlcaX (x : Idx) : Statement (.rlcaX x) := of_le rfl
theorem rla : Statement (.rla) := of_le rfl
theorem rlaX (x : Idx) : Statement (.rlaX x) := of_le rfl
theorem rrca : Statement (.rrca) := of_le rfl
theorem rrcaX (x : Idx) : Statement (.rrcaX x) := of_le rfl
theorem rra : Statement (.rra) := of_le rfl
theorem rraX (x : Idx) : Statement (.rraX x) := of_le rfl
theorem rlcR (r : Reg8) : Statement (.rlcR r) := of_le rfl
theorem rlcMHl : Statement (.rlcMHl) := of_le rfl
theorem rlcMXdR (x : Idx) (d : Byte) (r : Reg8) : Statement (.rlcMXdR x d r) := of_le rfl
theorem rlcMXd (x : Idx) (d : Byte) : Statement (.rlcMXd x d) := of_le rfl
theorem rrcR (r : Reg8) : Statement (.rrcR r) := of_le rfl
theorem rrcMHl : Statement (.rrcMHl) := of_le rfl
theorem rrcMXdR (x : Idx) (d : Byte) (r : Reg8) : Statement (.rrcMXdR x d r) := of_le rfl
theorem rrcMXd (x : Idx) (d : Byte) : Statement (.rrcMXd x d) := of_le rfl
theorem rlR (r : Reg8) : Statement (.rlR r) := of_le rfl
theorem rlMHl : Statement (.rlMHl) := of_le rfl
theorem rlMXdR (x : Idx) (d : Byte) (r : Reg8) : Statement (.rlMXdR x d r) := of_le rfl
theorem rlMXd (x : Idx) (d : Byte) : Statement (.rlMXd x d) := of_le rfl
theorem rrR (r : Reg8) : Statement (.rrR r) := of_le rfl
theorem rrMHl : Statement (.rrMHl) := of_le rfl
theorem rrMXdR (x : Idx) (d : Byte) (r : Reg8) : Statement (.rrMXdR x d r) := of_le rfl
theorem rrMXd (x : Idx) (d : Byte) : Statement (.rrMXd x d) := of_le rfl
theorem slaR (r : Reg8) : Statement (.slaR r) := of_le rfl
theorem slaMHl : Statement (.slaMHl) := of_le rfl
theorem slaMXdR (x : Idx) (d : Byte) (r : Reg8) : Statement (.slaMXdR x d r) := of_le rfl
theorem slaMXd (x : Idx) (d : Byte) : Statement (.slaMXd x d) := of_le rfl
theorem sraR (r : Reg8) : Statement (.sraR r) := of_le rfl
theorem sraMHl : Statement (.sraMHl) := of_le rfl
theorem sraMXdR (x : Idx) (d : Byte) (r : Reg8) : Statement (.sraMXdR x d r) := of_le rfl
theorem sraMXd (x : Idx) (d : Byte) : Statement (.sraMXd x d) := of_le rfl
theorem sllR (r : Reg8) : Statement (.sllR r) := of_le rfl
theorem sllMHl : Statement (.sllMHl) := of_le rfl
theorem sllMXdR (x : Idx) (d : Byte) (r : Reg8) : Statement (.sllMXdR x d r) := of_le rfl
theorem sllMXd (x : Idx) (d : Byte) : Statement (.sllMXd x d) := of_le rfl
theorem srlR (r : Reg8) : Statement (.srlR r) := of_le rfl
theorem srlMHl : Statement (.srlMHl) := of_le rfl
theorem srlMXdR (x : Idx) (d : Byte) (r : Reg8) : Statement (.srlMXdR x d r) := of_le rfl
theorem srlMXd (x : Idx) (d : Byte) : Statement (.srlMXd x d) := of_le rfl
theorem rld : Statement (.rld) := of_le rfl
theorem rrd : Statement (.rrd) := of_le rfl
theorem bitR (b : BitVec 3) (r : Reg8) : Statement (.bitR b r) := of_le rfl
theorem bitMHl (b : BitVec 3) : Statement (.bitMHl b) := of_le rfl
theorem bitMXd (x : Idx) (d : Byte) (b : BitVec 3) (z : BitVec 3) : Statement (.bitMXd x d b z) := of_le rfl
theorem setR (b : BitVec 3) (r : Reg8) : Statement (.setR b r) := of_le rfl
theorem setMHl (b : BitVec 3) : Statement (.setMHl b) := of_le rfl
theorem setMXdR (x : Idx) (d : Byte) (b : BitVec 3) (r : Reg8) : Statement (.setMXdR x d b r) := of_le rfl
theorem setMXd (x : Idx) (d : Byte) (b : BitVec 3) : Statement (.setMXd x d b) := of_le rfl
theorem resR (b : BitVec 3) (r : Reg8) : Statement (.resR b r) := of_le rfl
theorem resMHl (b : BitVec 3) : Statement (.resMHl b) := of_le rfl
theorem resMXdR (x : Idx) (d : Byte) (b : BitVec 3) (r : Reg8) : Statement (.resMXdR x d b r) := of_le rfl
theorem resMXd (x : Idx) (d : Byte) (b : BitVec 3) : Statement (.resMXd x d b) := of_le rfl
theorem jp (nn : Word) : Statement (.jp nn) := of_le rfl
theorem jpX (x : Idx) (nn : Word) : Statement (.jpX x nn) := of_le rfl
theorem jpCc (cc : Cond) (nn : Word) : Statement (.jpCc cc nn) := of_le rfl
theorem jpCcX (x : Idx) (cc : Cond) (nn : Word) : Statement (.jpCcX x cc nn) := of_le rfl
theorem jr (e : Byte) : Statement (.jr e) := of_le rfl
theorem jrX (x : Idx) (e : Byte) : Statement (.jrX x e) := of_le rfl
theorem jrCc (cc : Cond) (e : Byte) : Statement (.jrCc cc e) := of_le rfl
theorem jrCcX (x : Idx) (cc : Cond) (e : Byte) : Statement (.jrCcX x cc e) := of_le rfl
theorem jpHl : Statement (.jpHl) := of_le rfl
theorem jpIdx (x : Idx) : Statement (.jpIdx x) := of_le rfl
theorem djnz (e : Byte) : Statement (.djnz e) := of_le rfl
theorem djnzX (x : Idx) (e : Byte) : Statement (.djnzX x e) := of_le rfl
theorem call (nn : Word) : Statement (.call nn) := of_le rfl
theorem callX (x : Idx) (nn : Word) : Statement (.callX x nn) := of_le rfl
theorem callCc (cc : Cond) (nn : Word) : Statement (.callCc cc nn) := of_le rfl
theorem callCcX (x : Idx) (cc : Cond) (nn : Word) : Statement (.callCcX x cc nn) := of_le rfl
theorem ret : Statement (.ret) := of_le rfl
theorem retX (x : Idx) : Statement (.retX x) := of_le rfl
theorem retCc (cc : Cond) : Statement (.retCc cc) := of_le rfl
theorem retCcX (x : Idx) (cc : Cond) : Statement (.retCcX x cc) := of_le rfl
theorem reti : Statement (.reti) := of_le rfl
theorem retn (y : BitVec 3) : Statement (.retn y) := of_le rfl
theorem rst (t : BitVec 3) : Statement (.rst t) := of_le rfl
theorem rstX (x : Idx) (t : BitVec 3) : Statement (.rstX x t) := of_le rfl
theorem inAN (n : Byte) : Statement (.inAN n) := of_le rfl
theorem inANX (x : Idx) (n : Byte) : Statement (.inANX x n) := of_le rfl
theorem inRC (r : Reg8) : Statement (.inRC r) := of_le rfl
theorem inFC : Statement (.inFC) := of_le rfl
theorem ini : Statement (.ini) := of_le rfl
theorem inir : Statement (.inir) := of_le rfl
theorem ind : Statement (.ind) := of_le rfl
theorem indr : Statement (.indr) := of_le rfl
theorem outNA (n : Byte) : Statement (.outNA n) := of_le rfl
theorem outNAX (x : Idx) (n : Byte) : Statement (.outNAX x n) := of_le rfl
theorem outCR (r : Reg8) : Statement (.outCR r) := of_le rfl
theorem outC0 : Statement (.outC0) := of_le rfl
theorem outi : Statement (.outi) := of_le rfl
theorem otir : Statement (.otir) := of_le rfl
theorem outd : Statement (.outd) := of_le rfl
theorem otdr : Statement (.otdr) := of_le rfl
theorem swapnib : Statement (.swapnib) := of_le rfl
theorem mirrorA : Statement (.mirrorA) := of_le rfl
theorem testN (n : Byte) : Statement (.testN n) := of_le rfl
theorem bsla : Statement (.bsla) := of_le rfl
theorem bsra : Statement (.bsra) := of_le rfl
theorem bsrl : Statement (.bsrl) := of_le rfl
theorem bsrf : Statement (.bsrf) := of_le rfl
theorem brlc : Statement (.brlc) := of_le rfl
theorem mulDE : Statement (.mulDE) := of_le rfl
theorem addHlA : Statement (.addHlA) := of_le rfl
theorem addHlNn (nn : Word) : Statement (.addHlNn nn) := of_le rfl
theorem addDeA : Statement (.addDeA) := of_le rfl
theorem addDeNn (nn : Word) : Statement (.addDeNn nn) := of_le rfl
theorem addBcA : Statement (.addBcA) := of_le rfl
theorem addBcNn (nn : Word) : Statement (.addBcNn nn) := of_le rfl
theorem pushNn (nn : Word) : Statement (.pushNn nn) := of_le rfl
theorem outinb : Statement (.outinb) := of_le rfl
theorem nextregN (n : Byte) (v : Byte) : Statement (.nextregN n v) := of_le rfl
theorem nextregA (n : Byte) : Statement (.nextregA n) := of_le rfl
theorem pixeldn : Statement (.pixeldn) := of_le rfl
theorem pixelad : Statement (.pixelad) := of_le rfl
theorem setae : Statement (.setae) := of_le rfl
theorem jpC : Statement (.jpC) := of_le rfl
theorem ldix : Statement (.ldix) := of_le rfl
theorem ldws : Statement (.ldws) := of_le rfl
theorem lddx : Statement (.lddx) := of_le rfl
theorem ldirx : Statement (.ldirx) := of_le rfl
theorem ldpirx : Statement (.ldpirx) := of_le rfl
theorem lddrx : Statement (.lddrx) := of_le rfl
theorem prefixCB : Statement (.prefixCB) := of_le rfl
theorem prefixDD : Statement (.prefixDD) := of_le rfl
theorem prefixED : Statement (.prefixED) := of_le rfl
theorem prefixFD : Statement (.prefixFD) := of_le rfl
theorem prefixCBX (x : Idx) : Statement (.prefixCBX x) := of_le rfl
theorem prefixAfterX (x : Idx) (px : IdxPrefix) : Statement (.prefixAfterX x px) := of_le rfl

end Sys2Proof.Laws.EncodeLength
end

