-- ==== Sys2Proof/Tests/Slice0.lean ====
section
/-! SUPPORT. The model's own tests: ill-formed terms that the check refuses, words of every constructor written out from
the encodings of the spec, examples of the rules and of 95_test_vectors.md as single steps, and a witness for the
hypotheses of every statement that has some. -/

set_option maxRecDepth 8000

namespace Sys2Proof.Tests

open Sys2Proof Sys2Proof.Machine

/-! ### Well-formedness: a term that each check refuses -/

theorem test_wf_refuses_substituted_selectors :
    [Instr.ldRRX .ix .h .b, .ldRRX .iy .b .l, .ldRNX .ix .h 0, .addRX .ix .l, .adcRX .ix .h, .subRX .ix .l, .sbcRX .iy .h,
     .andRX .iy .h, .xorRX .ix .l, .orRX .ix .h, .cpRX .iy .l, .incRX .ix .h, .decRX .iy .l].all
      (fun i => !i.wf .allRows) = true := by decide

theorem test_wf_refuses_unsubstituted_pair : (Instr.ldRRXH .ix .a .b).wf .allRows = false := by decide

theorem test_wf_refuses_substituted_pairs :
    [Instr.ldRpNnX .ix .hl 0, .pushQX .ix .hl, .popQX .iy .hl, .incRpX .ix .hl, .decRpX .iy .hl].all
      (fun i => !i.wf .allRows) = true := by decide

theorem test_wf_refuses_conditions_of_jr :
    [Instr.jrCc .po 0, .jrCc .pe 0, .jrCcX .ix .p 0, .jrCcX .iy .m 0].all (fun i => !i.wf .allRows) = true := by decide

theorem test_wf_refuses_reti_as_retn : (Instr.retn 1).wf .allRows = false := by decide

/-- `ED 40`, `ED A0`, `ED B8` are instructions; `ED 23` is one where the subset is enabled. -/
theorem test_wf_refuses_assigned_codes_as_no_ops :
    (Instr.extNoop 0x40).wf .default = false ∧ (Instr.extNoop 0xA0).wf .default = false ∧
    (Instr.extNoop 0xB8).wf .default = false ∧ (Instr.extNoop 0x23).wf .allRows = false ∧
    (Instr.extNoop 0x23).wf .default = true := by decide

theorem test_wf_refuses_gated_subset :
    ([Instr.swapnib, .mirrorA, .testN 0, .bsla, .bsra, .bsrl, .bsrf, .brlc, .mulDE, .addHlA, .addHlNn 0, .addDeA,
      .addDeNn 0, .addBcA, .addBcNn 0] ++
     [Instr.pushNn 0, .outinb, .nextregN 0 0, .nextregA 0, .pixeldn, .pixelad, .setae, .jpC, .ldix, .ldws, .lddx, .ldirx,
      .ldpirx, .lddrx]).all (fun i => !i.wf .default && i.wf .allRows) = true := by decide

/-! ### Decoding: words of every constructor, from the encodings of the rules -/

/-- Each byte list decodes to the instruction beside it. -/
def decodesTo (l : List (List Byte × Instr)) : Bool := l.all fun e => decodeBytes .allRows e.1 = .ok e.2

theorem test_decode_load_8 : (decodesTo
    [([0x78], .ldRR .a .b), ([0xDD, 0x4A], .ldRRX .ix .c .d), ([0xFD, 0x65], .ldRRXH .iy .h .l),
     ([0xDD, 0x44], .ldRRXH .ix .b .h), ([0x2E, 0x99], .ldRN .l 0x99), ([0xFD, 0x0E, 0x12], .ldRNX .iy .c 0x12),
     ([0xDD, 0x26, 0x34], .ldXHN .ix .high 0x34), ([0xFD, 0x2E, 0x56], .ldXHN .iy .low 0x56), ([0x5E], .ldRMHl .e),
     ([0xDD, 0x66, 0x01], .ldRMXd .ix .h 0x01)] && decodesTo
    [([0x74], .ldMHlR .h), ([0xFD, 0x75, 0xFE], .ldMXdR .iy .l 0xFE), ([0x36, 0xAA], .ldMHlN 0xAA),
     ([0xDD, 0x36, 0x80, 0x77], .ldMXdN .ix 0x80 0x77), ([0x0A], .ldABc), ([0xDD, 0x0A], .ldABcX .ix), ([0x1A], .ldADe),
     ([0xFD, 0x1A], .ldADeX .iy), ([0x3A, 0x34, 0x12], .ldAMem 0x1234), ([0xDD, 0x3A, 0x34, 0x12], .ldAMemX .ix 0x1234)] && decodesTo
    [([0x02], .ldBcA), ([0xFD, 0x02], .ldBcAX .iy), ([0x12], .ldDeA), ([0xDD, 0x12], .ldDeAX .ix),
     ([0x32, 0xCD, 0xAB], .ldMemA 0xABCD), ([0xFD, 0x32, 0xCD, 0xAB], .ldMemAX .iy 0xABCD), ([0xED, 0x57], .ldAI),
     ([0xED, 0x5F], .ldAR), ([0xED, 0x47], .ldIA), ([0xED, 0x4F], .ldRA)]) = true := by decide

theorem test_decode_load_16 : (decodesTo
    [([0x31, 0x00, 0xF0], .ldRpNn .sp 0xF000), ([0xDD, 0x11, 0x01, 0x02], .ldRpNnX .ix .de 0x0201),
     ([0xFD, 0x21, 0x34, 0x12], .ldXNn .iy 0x1234), ([0x2A, 0x34, 0x12], .ldHlMem 0x1234),
     ([0xDD, 0x2A, 0x34, 0x12], .ldXMem .ix 0x1234), ([0xED, 0x4B, 0x34, 0x12], .ldRpMem .bc 0x1234),
     ([0xED, 0x6B, 0x34, 0x12], .ldRpMem .hl 0x1234), ([0x22, 0x34, 0x12], .ldMemHl 0x1234),
     ([0xFD, 0x22, 0x34, 0x12], .ldMemX .iy 0x1234), ([0xED, 0x73, 0x34, 0x12], .ldMemRp .sp 0x1234)] && decodesTo
    [([0xF9], .ldSpHl), ([0xDD, 0xF9], .ldSpX .ix), ([0xF5], .pushQ .af), ([0xFD, 0xC5], .pushQX .iy .bc),
     ([0xDD, 0xE5], .pushX .ix), ([0xD1], .popQ .de), ([0xDD, 0xF1], .popQX .ix .af), ([0xFD, 0xE1], .popX .iy)]) = true := by
  decide

theorem test_decode_exchange_block : (decodesTo
    [([0xEB], .exDeHl), ([0xDD, 0xEB], .exDeHlX .ix), ([0x08], .exAf), ([0xFD, 0x08], .exAfX .iy), ([0xD9], .exx),
     ([0xDD, 0xD9], .exxX .ix), ([0xE3], .exSpHl), ([0xFD, 0xE3], .exSpX .iy)] && decodesTo
    [([0xED, 0xA0], .ldi), ([0xED, 0xB0], .ldir), ([0xED, 0xA8], .ldd), ([0xED, 0xB8], .lddr), ([0xED, 0xA1], .cpi),
     ([0xED, 0xB1], .cpir), ([0xED, 0xA9], .cpd), ([0xED, 0xB9], .cpdr)]) = true := by decide

theorem test_decode_add_adc_sub_sbc : (decodesTo
    [([0x80], .addR .b), ([0xDD, 0x81], .addRX .ix .c), ([0xDD, 0x84], .addXH .ix .high), ([0xC6, 0x05], .addN 5),
     ([0xFD, 0xC6, 0x05], .addNX .iy 5), ([0x86], .addMHl), ([0xFD, 0x86, 0x02], .addMXd .iy 2), ([0x8D], .adcR .l),
     ([0xFD, 0x8F], .adcRX .iy .a), ([0xFD, 0x8D], .adcXH .iy .low), ([0xCE, 0x00], .adcN 0), ([0xDD, 0xCE, 0x09], .adcNX .ix 9),
     ([0x8E], .adcMHl), ([0xDD, 0x8E, 0x7F], .adcMXd .ix 0x7F)] && decodesTo
    [([0x94], .subR .h), ([0xDD, 0x93], .subRX .ix .e), ([0xDD, 0x95], .subXH .ix .low), ([0xD6, 0x01], .subN 1),
     ([0xDD, 0xD6, 0x01], .subNX .ix 1), ([0x96], .subMHl), ([0xDD, 0x96, 0x80], .subMXd .ix 0x80), ([0x9A], .sbcR .d),
     ([0xFD, 0x98], .sbcRX .iy .b), ([0xFD, 0x9C], .sbcXH .iy .high), ([0xDE, 0x00], .sbcN 0), ([0xFD, 0xDE, 0x33], .sbcNX .iy 0x33),
     ([0x9E], .sbcMHl), ([0xFD, 0x9E, 0x05], .sbcMXd .iy 5)]) = true := by decide

theorem test_decode_logic_compare : (decodesTo
    [([0xA0], .andR .b), ([0xDD, 0xA7], .andRX .ix .a), ([0xDD, 0xA4], .andXH .ix .high), ([0xE6, 0x0F], .andN 0x0F),
     ([0xDD, 0xE6, 0x0F], .andNX .ix 0x0F), ([0xA6], .andMHl), ([0xFD, 0xA6, 0x01], .andMXd .iy 1), ([0xAF], .xorR .a),
     ([0xFD, 0xA9], .xorRX .iy .c), ([0xFD, 0xAD], .xorXH .iy .low), ([0xEE, 0xFF], .xorN 0xFF), ([0xFD, 0xEE, 0x01], .xorNX .iy 1),
     ([0xAE], .xorMHl), ([0xDD, 0xAE, 0xFF], .xorMXd .ix 0xFF)] && decodesTo
    [([0xB5], .orR .l), ([0xDD, 0xB2], .orRX .ix .d), ([0xDD, 0xB5], .orXH .ix .low), ([0xF6, 0x01], .orN 1),
     ([0xDD, 0xF6, 0x80], .orNX .ix 0x80), ([0xB6], .orMHl), ([0xDD, 0xB6, 0x00], .orMXd .ix 0), ([0xBB], .cpR .e),
     ([0xFD, 0xBA], .cpRX .iy .d), ([0xFD, 0xBC], .cpXH .iy .high), ([0xFE, 0x28], .cpN 0x28), ([0xFD, 0xFE, 0x28], .cpNX .iy 0x28),
     ([0xBE], .cpMHl), ([0xFD, 0xBE, 0x03], .cpMXd .iy 3)]) = true := by decide

theorem test_decode_inc_dec : (decodesTo
    [([0x3C], .incR .a), ([0xDD, 0x14], .incRX .ix .d), ([0xFD, 0x2C], .incXH .iy .low), ([0x34], .incMHl),
     ([0xDD, 0x34, 0xFF], .incMXd .ix 0xFF), ([0x25], .decR .h), ([0xFD, 0x1D], .decRX .iy .e), ([0xDD, 0x25], .decXH .ix .high),
     ([0x35], .decMHl), ([0xFD, 0x35, 0x04], .decMXd .iy 4)] && decodesTo
    [([0x09], .addHlRp .bc), ([0x39], .addHlRp .sp), ([0xDD, 0x29], .addXRp .ix .hl), ([0xFD, 0x19], .addXRp .iy .de),
     ([0xED, 0x5A], .adcHlRp .de), ([0xED, 0x72], .sbcHlRp .sp), ([0x33], .incRp .sp), ([0xDD, 0x03], .incRpX .ix .bc),
     ([0xDD, 0x23], .incX .ix), ([0x2B], .decRp .hl), ([0xFD, 0x3B], .decRpX .iy .sp), ([0xFD, 0x2B], .decX .iy)]) = true := by
  decide

theorem test_decode_control : (decodesTo
    [([0x27], .daa), ([0xDD, 0x27], .daaX .ix), ([0x2F], .cpl), ([0xFD, 0x2F], .cplX .iy), ([0xED, 0x44], .neg 0),
     ([0xED, 0x6C], .neg 5), ([0x3F], .ccf), ([0xDD, 0x3F], .ccfX .ix), ([0x37], .scf), ([0xFD, 0x37], .scfX .iy),
     ([0x00], .nop), ([0xDD, 0x00], .nopX .ix), ([0x76], .halt), ([0xFD, 0x76], .haltX .iy)] && decodesTo
    [([0xF3], .di), ([0xDD, 0xF3], .diX .ix), ([0xFB], .ei), ([0xFD, 0xFB], .eiX .iy), ([0xED, 0x46], .im 0),
     ([0xED, 0x56], .im 2), ([0xED, 0x7E], .im 7), ([0xED, 0x6E], .im 5), ([0xED, 0x77], .extNoop 0x77),
     ([0xED, 0xDD], .extNoop 0xDD), ([0xED, 0xED], .extNoop 0xED), ([0xED, 0x9F], .extNoop 0x9F)]) = true := by decide

theorem test_decode_rotates : (decodesTo
    [([0x07], .rlca), ([0xDD, 0x07], .rlcaX .ix), ([0x17], .rla), ([0xFD, 0x17], .rlaX .iy), ([0x0F], .rrca),
     ([0xDD, 0x0F], .rrcaX .ix), ([0x1F], .rra), ([0xFD, 0x1F], .rraX .iy), ([0xED, 0x6F], .rld), ([0xED, 0x67], .rrd)] && decodesTo
    [([0xCB, 0x00], .rlcR .b), ([0xCB, 0x06], .rlcMHl), ([0xDD, 0xCB, 0x05, 0x04], .rlcMXdR .ix 5 .h),
     ([0xFD, 0xCB, 0x05, 0x06], .rlcMXd .iy 5), ([0xCB, 0x0A], .rrcR .d), ([0xCB, 0x0E], .rrcMHl),
     ([0xFD, 0xCB, 0xFF, 0x0F], .rrcMXdR .iy 0xFF .a), ([0xDD, 0xCB, 0x80, 0x0E], .rrcMXd .ix 0x80), ([0xCB, 0x11], .rlR .c),
     ([0xCB, 0x16], .rlMHl), ([0xDD, 0xCB, 0x00, 0x11], .rlMXdR .ix 0 .c), ([0xDD, 0xCB, 0x01, 0x16], .rlMXd .ix 1)] && decodesTo
    [([0xCB, 0x1B], .rrR .e), ([0xCB, 0x1E], .rrMHl), ([0xFD, 0xCB, 0x02, 0x1A], .rrMXdR .iy 2 .d),
     ([0xFD, 0xCB, 0x03, 0x1E], .rrMXd .iy 3), ([0xCB, 0x24], .slaR .h), ([0xCB, 0x26], .slaMHl),
     ([0xDD, 0xCB, 0x04, 0x25], .slaMXdR .ix 4 .l), ([0xDD, 0xCB, 0x05, 0x26], .slaMXd .ix 5), ([0xCB, 0x2D], .sraR .l),
     ([0xCB, 0x2E], .sraMHl), ([0xFD, 0xCB, 0x06, 0x28], .sraMXdR .iy 6 .b), ([0xFD, 0xCB, 0x07, 0x2E], .sraMXd .iy 7)] && decodesTo
    [([0xCB, 0x37], .sllR .a), ([0xCB, 0x36], .sllMHl), ([0xDD, 0xCB, 0x08, 0x33], .sllMXdR .ix 8 .e),
     ([0xDD, 0xCB, 0x09, 0x36], .sllMXd .ix 9), ([0xCB, 0x3F], .srlR .a), ([0xCB, 0x3E], .srlMHl),
     ([0xFD, 0xCB, 0x0A, 0x38], .srlMXdR .iy 10 .b), ([0xFD, 0xCB, 0x0B, 0x3E], .srlMXd .iy 11)]) = true := by decide

theorem test_decode_bits : decodesTo
    [([0xCB, 0x7F], .bitR 7 .a), ([0xCB, 0x66], .bitMHl 4), ([0xDD, 0xCB, 0x05, 0x46], .bitMXd .ix 5 0 6),
     ([0xFD, 0xCB, 0x05, 0x7B], .bitMXd .iy 5 7 3), ([0xCB, 0xDB], .setR 3 .e), ([0xCB, 0xDE], .setMHl 3),
     ([0xFD, 0xCB, 0x01, 0xC4], .setMXdR .iy 1 0 .h), ([0xDD, 0xCB, 0x01, 0xFE], .setMXd .ix 1 7), ([0xCB, 0x80], .resR 0 .b),
     ([0xCB, 0xBE], .resMHl 7), ([0xDD, 0xCB, 0x02, 0x80], .resMXdR .ix 2 0 .b), ([0xFD, 0xCB, 0x02, 0x8E], .resMXd .iy 2 1)] =
    true := by decide

theorem test_decode_jumps : (decodesTo
    [([0xC3, 0x34, 0x12], .jp 0x1234), ([0xDD, 0xC3, 0x34, 0x12], .jpX .ix 0x1234), ([0xDA, 0x00, 0x90], .jpCc .c 0x9000),
     ([0xFD, 0xF2, 0x00, 0x90], .jpCcX .iy .p 0x9000), ([0x18, 0xFE], .jr 0xFE), ([0xDD, 0x18, 0x7F], .jrX .ix 0x7F),
     ([0x28, 0x10], .jrCc .z 0x10), ([0xFD, 0x38, 0x10], .jrCcX .iy .c 0x10), ([0xE9], .jpHl), ([0xFD, 0xE9], .jpIdx .iy),
     ([0x10, 0xFD], .djnz 0xFD), ([0xDD, 0x10, 0x02], .djnzX .ix 2)] && decodesTo
    [([0xCD, 0x00, 0x90], .call 0x9000), ([0xDD, 0xCD, 0x00, 0x90], .callX .ix 0x9000), ([0xEC, 0x00, 0x90], .callCc .pe 0x9000),
     ([0xFD, 0xC4, 0x00, 0x90], .callCcX .iy .nz 0x9000), ([0xC9], .ret), ([0xDD, 0xC9], .retX .ix), ([0xF8], .retCc .m),
     ([0xFD, 0xE0], .retCcX .iy .po), ([0xED, 0x4D], .reti), ([0xED, 0x45], .retn 0), ([0xED, 0x75], .retn 6),
     ([0xFF], .rst 7), ([0xDD, 0xDF], .rstX .ix 3)]) = true := by decide

theorem test_decode_io : (decodesTo
    [([0xDB, 0xFE], .inAN 0xFE), ([0xDD, 0xDB, 0xFE], .inANX .ix 0xFE), ([0xED, 0x78], .inRC .a), ([0xED, 0x60], .inRC .h),
     ([0xED, 0x70], .inFC), ([0xD3, 0xFE], .outNA 0xFE), ([0xFD, 0xD3, 0xFE], .outNAX .iy 0xFE), ([0xED, 0x49], .outCR .c),
     ([0xED, 0x71], .outC0)] && decodesTo
    [([0xED, 0xA2], .ini), ([0xED, 0xB2], .inir), ([0xED, 0xAA], .ind), ([0xED, 0xBA], .indr), ([0xED, 0xA3], .outi),
     ([0xED, 0xB3], .otir), ([0xED, 0xAB], .outd), ([0xED, 0xBB], .otdr)]) = true := by decide

theorem test_decode_z80n : (decodesTo
    [([0xED, 0x23], .swapnib), ([0xED, 0x24], .mirrorA), ([0xED, 0x27, 0x0F], .testN 0x0F), ([0xED, 0x28], .bsla),
     ([0xED, 0x29], .bsra), ([0xED, 0x2A], .bsrl), ([0xED, 0x2B], .bsrf), ([0xED, 0x2C], .brlc), ([0xED, 0x30], .mulDE),
     ([0xED, 0x31], .addHlA), ([0xED, 0x32], .addDeA), ([0xED, 0x33], .addBcA), ([0xED, 0x34, 0x34, 0x12], .addHlNn 0x1234),
     ([0xED, 0x35, 0x01, 0x00], .addDeNn 1), ([0xED, 0x36, 0x34, 0x12], .addBcNn 0x1234)] && decodesTo
    [([0xED, 0x8A, 0x12, 0x34], .pushNn 0x1234), ([0xED, 0x90], .outinb), ([0xED, 0x91, 0x07, 0x02], .nextregN 7 2),
     ([0xED, 0x92, 0x15], .nextregA 0x15), ([0xED, 0x93], .pixeldn), ([0xED, 0x94], .pixelad), ([0xED, 0x95], .setae),
     ([0xED, 0x98], .jpC), ([0xED, 0xA4], .ldix), ([0xED, 0xA5], .ldws), ([0xED, 0xAC], .lddx), ([0xED, 0xB4], .ldirx),
     ([0xED, 0xB7], .ldpirx), ([0xED, 0xBC], .lddrx)]) = true := by decide

/-- The prefix rows, as calls in the state that recognises them (R102). -/
theorem test_decode_prefixes :
    (decodeCall .default .idle 0xCB 0 0).1 = .prefixCB ∧ (decodeCall .default .idle 0xDD 0 0).1 = .prefixDD ∧
    (decodeCall .default .idle 0xED 0 0).1 = .prefixED ∧ (decodeCall .default .idle 0xFD 0 0).1 = .prefixFD ∧
    (decodeCall .default (.indexPending .ix) 0xCB 0 0).1 = .prefixCBX .ix ∧
    (decodeCall .default (.indexPending .iy) 0xDD 0 0).1 = .prefixAfterX .iy .dd ∧
    (decodeCall .default (.indexPending .ix) 0xED 0 0).1 = .prefixAfterX .ix .ed := by decide

/-! ### Single steps: the examples of the rules and the rows of 95_test_vectors.md -/

/-- The state of the examples: reset, with PC at 0x8000. -/
def base : State := { State.reset with pc := 0x8000, sp := 0xFFFE }

/-- The state after the one call that runs the instruction `bs` at PC, its prefix bytes consumed before. -/
def run (s : State) (bs : List Byte) : State :=
  match step (s.placing bs) with
  | .next t => t
  | .fault _ => s
  | .refused _ => s

theorem test_ld_h_from_index_memory :
    let t := run ({ base with ix := 0x9000 }.write 0x9001 0x5A) [0xDD, 0x66, 0x01]
    t.hl = 0x5A00 ∧ t.ix = 0x9000 ∧ t.wz = 0x9001 ∧ t.ticks = 19 := by decide

theorem test_ld_index_memory_wraps :
    let t := run { base with iy := 0xFFF0, af := 0xEE00 } [0xFD, 0x77, 0x7F]
    t.read 0x006F = 0xEE ∧ t.wz = 0x006F ∧ t.pc = 0x8003 := by decide

theorem test_ld_mem_a_low_byte_of_wz_wraps :
    let t := run { base with af := 0x5500 } [0x32, 0xFF, 0x90]
    t.read 0x90FF = 0x55 ∧ t.wz = 0x5500 ∧ t.ticks = 13 := by decide

theorem test_ld_hl_mem_wraps :
    (run ((base.write 0xFFFF 0x34).write 0x0000 0x12) [0x2A, 0xFF, 0xFF]).hl = 0x1234 := by decide

theorem test_ld_a_i_flags :
    (run { base with i := 0x80, iff2 := true, af := 0x0001 } [0xED, 0x57]).af = 0x8085 := by decide

theorem test_ld_a_r_counts_its_own_fetches : (run { base with r := 0x7E } [0xED, 0x5F]).af = 0x0040 := by decide

theorem test_push_wraps :
    let t := run { base with ix := 0x1234, sp := 0x0001 } [0xDD, 0xE5]
    t.sp = 0xFFFF ∧ t.read 0x0000 = 0x12 ∧ t.read 0xFFFF = 0x34 ∧ t.ticks = 15 := by decide

theorem test_pop_af_writes_every_flag :
    (run ({ base with sp := 0x9000 }.write 0x9000 0xFF) [0xF1]).af = 0x00FF := by decide

theorem test_push_immediate_is_big_endian :
    let t := run { base with sp := 0x8800 } [0xED, 0x8A, 0x12, 0x34]
    t.read 0x87FF = 0x12 ∧ t.read 0x87FE = 0x34 ∧ t.sp = 0x87FE ∧ t.ticks = 23 := by decide

theorem test_ex_sp_index :
    let t := run (({ base with ix := 0x1111, sp := 0x9000 }.write 0x9000 0x22).write 0x9001 0x33) [0xDD, 0xE3]
    t.ix = 0x3322 ∧ t.wz = 0x3322 ∧ t.read 0x9000 = 0x11 ∧ t.read 0x9001 = 0x11 := by decide

theorem test_exx_keeps_af :
    let t := run { base with bc := 1, bcAlt := 2, af := 3, afAlt := 4 } [0xD9]
    t.bc = 2 ∧ t.bcAlt = 1 ∧ t.af = 3 := by decide

/-- W1: the document's block copy; 16 ticks. -/
theorem test_ldi_document_row :
    let t := run (({ base with bc := 0x0010, hl := 0x1000, de := 0x1001 }.write 0x1000 0xA5).write 0x1001 0x11) [0xED, 0xA0]
    t.read 0x1001 = 0xA5 ∧ t.bc = 0x000F ∧ t.hl = 0x1001 ∧ t.de = 0x1002 ∧ fPV t.f = true ∧ fH t.f = false ∧
      fN t.f = false ∧ t.ticks = 16 := by decide

theorem test_ldi_x_and_y_from_sum :
    (run ({ base with bc := 2, hl := 0x9000, de := 0xA000, af := 0x0100 }.write 0x9000 0x09) [0xED, 0xA0]).af = 0x012C := by
  decide

theorem test_ldir_repeats :
    let t := run ({ base with bc := 2, hl := 0x9000, de := 0xA000 }.write 0x9000 0x01) [0xED, 0xB0]
    t.pc = 0x8000 ∧ t.wz = 0x8001 ∧ t.ticks = 21 ∧ t.f = 0x04 := by decide

theorem test_cpi_borrow :
    let t := run ({ base with bc := 2, hl := 0x9000, af := 0x1000 }.write 0x9000 0x01) [0xED, 0xA1]
    t.af = 0x103E ∧ t.bc = 1 ∧ t.wz = 0x0001 := by decide

theorem test_cpdr_repeats_until_match :
    let t := run ({ base with bc := 3, hl := 0x8802, af := 0x0100 }.write 0x8802 0x05) [0xED, 0xB9]
    t.pc = 0x8000 ∧ t.hl = 0x8801 ∧ t.bc = 2 ∧ t.ticks = 21 := by decide

theorem test_add_overflow : (run { base with af := 0x7F00, bc := 0x0100 } [0x80]).af = 0x8094 := by decide
theorem test_add_carry : (run { base with af := 0x8000 } [0x87]).af = 0x0045 := by decide
theorem test_adc_carry_in : (run { base with af := 0xFF01 } [0xCE, 0x00]).af = 0x0051 := by decide
theorem test_sub_overflow : (run { base with af := 0x8000 } [0xD6, 0x01]).af = 0x7F3E := by decide
theorem test_sbc_borrow_in : (run { base with af := 0x0001 } [0xDE, 0x00]).af = 0xFFBB := by decide
theorem test_and_sets_half_carry : (run { base with af := 0xF000 } [0xE6, 0x0F]).af = 0x0054 := by decide
theorem test_xor_x_and_y : (run { base with af := 0xD700 } [0xEE, 0xFF]).af = 0x282C := by decide
theorem test_or_memory : (run ({ base with hl := 0x9000 }.write 0x9000 0x28) [0xB6]).af = 0x282C := by decide
theorem test_cp_x_and_y_from_operand : (run { base with af := 0x1000 } [0xFE, 0x28]).af = 0x10BB := by decide

theorem test_cp_index_memory :
    let t := run ({ base with af := 0x5000, ix := 0x9000 }.write 0x9003 0x50) [0xDD, 0xBE, 0x03]
    t.af = 0x5042 ∧ t.wz = 0x9003 ∧ t.ticks = 19 := by decide

theorem test_inc_keeps_carry : (run { base with af := 0xFF01 } [0x3C]).af = 0x0051 := by decide

theorem test_inc_index_memory :
    let t := run ({ base with ix := 0x9002 }.write 0x9000 0x7F) [0xDD, 0x34, 0xFE]
    t.read 0x9000 = 0x80 ∧ t.f = 0x94 ∧ t.wz = 0x9000 ∧ t.ticks = 23 := by decide

theorem test_dec_half_of_index :
    let t := run { base with iy := 0x0010 } [0xFD, 0x2D]
    t.iy = 0x000F ∧ t.f = 0x1A := by decide

/-- W8 and R290. -/
theorem test_daa_rows :
    (run { base with af := 0x3C00 } [0x27]).af = 0x4214 ∧ (run { base with af := 0x0900 } [0x27]).af = 0x090C ∧
    (run { base with af := 0x9A00 } [0x27]).af = 0x0055 ∧ (run { base with af := 0x0F12 } [0x27]).af = 0x090E := by decide

theorem test_cpl : (run { base with af := 0x5500 } [0x2F]).af = 0xAA3A := by decide
theorem test_neg_duplicate : (run { base with af := 0x0100 } [0xED, 0x7C]).af = 0xFFBB := by decide
theorem test_ccf : (run { base with af := 0x2801 } [0x3F]).af = 0x2838 := by decide
theorem test_scf : (run base [0x37]).af = 0x0001 := by decide

theorem test_halt_holds_pc :
    let t := run base [0xDD, 0x76]
    t.pc = 0x8001 ∧ t.halted = true ∧ t.ticks = 8 := by decide

theorem test_ei_blocks_once :
    let t := run base [0xFB]
    t.iff1 = true ∧ t.iff2 = true ∧ t.intBlocked = true := by decide

theorem test_im_2 : (run base [0xED, 0x5E]).im = .m2 := by decide

theorem test_ed_no_op_only_fetches :
    let t := run base [0xED, 0xDD]
    t.pc = 0x8002 ∧ t.r = 2 ∧ t.ticks = 8 ∧ t.dec = .idle := by decide

theorem test_add_hl_half_carry :
    let t := run { base with hl := 0x0FFF, bc := 1 } [0x09]
    t.hl = 0x1000 ∧ t.f = 0x10 ∧ t.wz = 0x1000 ∧ t.ticks = 11 := by decide

theorem test_adc_hl_overflow :
    let t := run { base with hl := 0x7FFF, af := 0x0001 } [0xED, 0x5A]
    t.hl = 0x8000 ∧ t.f = 0x94 := by decide

theorem test_sbc_hl_borrow :
    let t := run { base with de := 1 } [0xED, 0x52]
    t.hl = 0xFFFF ∧ t.f = 0xBB := by decide

theorem test_inc_bc_touches_no_flag :
    let t := run { base with bc := 0xFFFF, af := 0x00FF } [0x03]
    t.bc = 0 ∧ t.f = 0xFF := by decide

theorem test_rla_keeps_zero : (run { base with af := 0x8000 } [0x17]).af = 0x0001 := by decide
theorem test_sra_keeps_sign : (run { base with hl := 0x0081 } [0xCB, 0x2D]).hl = 0x00C0 := by decide
theorem test_sll_sets_bit_0 : (run base [0xCB, 0x37]).af = 0x0100 := by decide

theorem test_rlc_index_copies_to_h :
    let t := run ({ base with ix := 0x9000 }.write 0x9005 0x80) [0xDD, 0xCB, 0x05, 0x04]
    t.read 0x9005 = 0x01 ∧ t.hl = 0x0100 ∧ t.ix = 0x9000 ∧ t.f = 0x01 ∧ t.ticks = 23 ∧ t.r = 2 := by decide

theorem test_rld :
    let t := run ({ base with hl := 0x8800, af := 0x1200 }.write 0x8800 0x34) [0xED, 0x6F]
    t.read 0x8800 = 0x42 ∧ t.af = 0x1300 ∧ t.ticks = 18 := by decide

theorem test_rrd :
    let t := run ({ base with hl := 0x8800, af := 0x1200 }.write 0x8800 0x34) [0xED, 0x67]
    t.read 0x8800 = 0x23 ∧ t.af = 0x1404 := by decide

theorem test_bit_memory_shows_wz : (run { base with hl := 0x8800, wz := 0x2800 } [0xCB, 0x66]).f = 0x7C := by decide
theorem test_bit_7_register : (run { base with af := 0x8000 } [0xCB, 0x7F]).f = 0x90 := by decide

theorem test_set_memory :
    let t := run { base with hl := 0x8800, af := 0x00FF } [0xCB, 0xDE]
    t.read 0x8800 = 0x08 ∧ t.f = 0xFF ∧ t.ticks = 15 := by decide

theorem test_res_register : (run { base with bc := 0xFF00 } [0xCB, 0x80]).bc = 0xFE00 := by decide

theorem test_jr_wraps :
    (run { base with pc := 0xFFF0 } [0x18, 0x7F]).pc = 0x0071 ∧ (run base [0x18, 0x80]).pc = 0x7F82 := by decide

theorem test_jp_cc_not_taken :
    let t := run base [0xCA, 0x00, 0x90]
    t.pc = 0x8003 ∧ t.wz = 0x9000 ∧ t.ticks = 10 := by decide

theorem test_jp_index_reads_no_memory : (run { base with ix := 0x4000 } [0xDD, 0xE9]).pc = 0x4000 := by decide

theorem test_djnz :
    let t := run { base with bc := 0x0100 } [0x10, 0xFE]
    let u := run { base with bc := 0x0200 } [0x10, 0xFE]
    t.pc = 0x8002 ∧ t.ticks = 8 ∧ u.pc = 0x8000 ∧ u.bc = 0x0100 ∧ u.ticks = 13 := by decide

theorem test_call :
    let t := run base [0xCD, 0x00, 0x90]
    t.read 0xFFFD = 0x80 ∧ t.read 0xFFFC = 0x03 ∧ t.sp = 0xFFFC ∧ t.pc = 0x9000 ∧ t.ticks = 17 := by decide

theorem test_call_cc_not_taken :
    let t := run { base with af := 0x0040 } [0xC4, 0x00, 0x90]
    t.pc = 0x8003 ∧ t.sp = 0xFFFE ∧ t.ticks = 10 := by decide

theorem test_ret_m :
    let t := run (({ base with sp := 0xFFFC, af := 0x0080 }.write 0xFFFC 0x03).write 0xFFFD 0x80) [0xF8]
    t.pc = 0x8003 ∧ t.sp = 0xFFFE ∧ t.ticks = 11 := by decide

theorem test_reti_copies_iff2 :
    let t := run (({ base with sp := 0xFFFC, iff2 := true }.write 0xFFFC 0x03).write 0xFFFD 0x80) [0xED, 0x4D]
    t.pc = 0x8003 ∧ t.iff1 = true ∧ t.ticks = 14 := by decide

theorem test_rst :
    let t := run base [0xFF]
    t.pc = 0x0038 ∧ t.read 0xFFFD = 0x80 ∧ t.read 0xFFFC = 0x01 ∧ t.ticks = 11 := by decide

theorem test_in_records_the_port :
    (run { base with af := 0x1200 } [0xDB, 0xFE]).portTrace = [.portRead 0x12FE (Config.portDraw 0 0x12FE)] ∧
    (run { base with af := 0x1200 } [0xDB, 0xFE]).wz = 0x12FF := ⟨rfl, by decide⟩

theorem test_out_n_a_wraps_low_byte :
    let t := run { base with af := 0x0700 } [0xD3, 0xFF]
    t.portTrace = [.portWrite 0x07FF 0x07] ∧ t.wz = 0x0700 := by decide

theorem test_outi :
    let t := run ({ base with bc := 0x0110, hl := 0x8800 }.write 0x8800 0xFF) [0xED, 0xA3]
    t.portTrace = [.portWrite 0x0010 0xFF] ∧ t.bc = 0x0010 ∧ t.hl = 0x8801 ∧ t.wz = 0x0011 := by decide

theorem test_outd_flags :
    let t := run ({ base with bc := 0x0210, hl := 0x8801 }.write 0x8801 0x01) [0xED, 0xAB]
    t.f = 0x04 ∧ t.wz = 0x010F := by decide

theorem test_z80n_swapnib_mirror :
    (run { base with af := 0x1200 } [0xED, 0x23]).af = 0x2100 ∧ (run { base with af := 0xC400 } [0xED, 0x24]).af = 0x2300 := by
  decide

theorem test_z80n_barrel :
    (run { base with de := 1, bc := 0x2100 } [0xED, 0x28]).de = 0x0002 ∧
    (run { base with de := 0x8000, bc := 0x0100 } [0xED, 0x29]).de = 0xC000 ∧
    (run { base with de := 0x8000, bc := 0x0100 } [0xED, 0x2A]).de = 0x4000 ∧
    (run { base with bc := 0x0400 } [0xED, 0x2B]).de = 0xF000 ∧
    (run { base with de := 0x8001, bc := 0x0100 } [0xED, 0x2C]).de = 0x0003 := by decide

theorem test_z80n_mul : (run { base with de := 0xFFFF } [0xED, 0x30]).de = 0xFE01 := by decide

theorem test_z80n_pixel_addresses :
    (run { base with hl := 0x4700 } [0xED, 0x93]).hl = 0x4020 ∧ (run { base with hl := 0x47E0 } [0xED, 0x93]).hl = 0x4800 ∧
    (run { base with de := 0xBFFF } [0xED, 0x94]).hl = 0x57FF := by decide

theorem test_z80n_nextreg :
    (run { base with cfg := { Config.default with extRegDevice := true } } [0xED, 0x91, 0x07, 0x02]).extCalls = [.extSetValue 2, .extSelect 7] ∧
    (run base [0xED, 0x91, 0x07, 0x02]).extCalls = [] ∧ (run base [0xED, 0x91, 0x07, 0x02]).pc = 0x8004 := by decide

theorem test_z80n_ldpirx_pattern :
    (run ({ base with hl := 0x8803, de := 0x9005, bc := 1 }.write 0x8805 0x77) [0xED, 0xB7]).read 0x9005 = 0x77 := by decide

/-- `LDDX`: HL steps down, DE up (R466). -/
theorem test_z80n_lddx :
    let t := run ({ base with hl := 0x8801, de := 0x9000, bc := 2, af := 0xE300 }.write 0x8801 0x07) [0xED, 0xAC]
    t.read 0x9000 = 0x07 ∧ t.hl = 0x8800 ∧ t.de = 0x9001 ∧ t.bc = 1 := by decide

/-! ### Device calls -/

/-- The accesses of `EX (SP),HL` in the order of R233's pseudocode, after the opcode fetch; the newest stands first. -/
theorem test_ex_sp_access_order :
    (run ({ base with sp := 0x9000, hl := 0xABCD }.write16 0x9000 0x1234) [0xE3]).deviceCalls.take 5 =
      [.memWrite 0x9000 0xCD, .memWrite 0x9001 0xAB, .memRead 0x9001 0x12, .memRead 0x9000 0x34, .memRead 0x8000 0xE3] := by
  decide

/-- The mode-2 vector is read after the push (R487, R489). -/
theorem test_mode_2_access_order :
    (match step { (base.write16 0x01FF 0x4000) with int := true, iff1 := true, im := .m2, i := 0x01, deviceCalls := [] } with
      | .next t => t.deviceCalls
      | .fault _ => []
      | .refused _ => []) =
      [.memRead 0x0200 0x40, .memRead 0x01FF 0x00, .memWrite 0xFFFC 0x00, .memWrite 0xFFFD 0x80] := by decide

/-- An external memory device answers each read from all the calls before it, so two reads of one address may differ and
a write need not be read back (R66). -/
theorem test_external_memory_answers :
    let s := { base with cfg := { Config.default with memDevice := .external 3 } }
    let u := (s.afterRead 0x9000).write 0x9000 0x55
    s.read 0x9000 = Config.memAnswer 3 [] 0x9000 ∧
    u.read 0x9000 =
      Config.memAnswer 3 [.memWrite 0x9000 0x55, .memRead 0x9000 (Config.memAnswer 3 [] 0x9000)] 0x9000 :=
  ⟨rfl, rfl⟩

/-- An external port device answers from all the calls before the read (R66). -/
theorem test_external_port_answers :
    let s := { base with cfg := { Config.default with portDevice := .external 1 } }
    (s.portRead 0x12FE).portIn 0x12FE = Config.portAnswer 1 [.portRead 0x12FE (Config.portAnswer 1 [] 0x12FE)] 0x12FE := rfl

/-- A read of the host calls the device (R67, R515). -/
theorem test_host_read_calls_the_device :
    ∃ t, hostOp (.readMemory 0x9000) (base.write 0x9000 0x12) = .next t ∧
      t.deviceCalls = [.memRead 0x9000 0x12, .memWrite 0x9000 0x12] := ⟨_, rfl, by decide⟩

/-! ### Witnesses: states and operands that meet the hypotheses of the statements -/

/-- The state a call leaves, for the witnesses. -/
def after (s : State) : State :=
  match step s with
  | .next t => t
  | .fault _ => s
  | .refused _ => s

/-- A memory that lists something. -/
def stored : State := (base.write 0x9000 0x12).write 0xFFFD 0x34

theorem witness_DecodeOfEncodeIsIdentity : (Instr.ldRRXH .ix .h .b).wf .default = true := by decide

theorem witness_DecodedBytesEndInTheEncoding :
    decodeBytes .default [0xDD, 0xFD, 0x21, 0x34, 0x12] = .ok (.ldXNn .iy 0x1234) := by decide

theorem stored_ramConsistent : stored.ramConsistent := by
  refine State.ramConsistent_write _ _ _ rfl (by decide) (State.ramConsistent_write _ _ _ rfl (by decide) ⟨trivial, ?_⟩)
  intro a v h
  cases h

theorem witness_NoInstructionStops : stored.mem.wf = true := by decide

theorem witness_ControlRegistersHaveFewWriters :
    (∃ t, exec .ldIA { base with af := 0x1200 } = .next t ∧ t.i ≠ base.i) ∧
    (∃ t, exec .ldRA { base with af := 0x1200 } = .next t ∧ t.r ≠ base.r) ∧
    (∃ t, exec (.im 3) base = .next t ∧ t.im ≠ base.im) ∧
    (∃ t, exec .ei base = .next t ∧ t.iff1 ≠ base.iff1 ∧ t.iff2 ≠ base.iff2) ∧
    (∃ t, exec .halt base = .next t ∧ t.halted ≠ base.halted) :=
  ⟨⟨_, rfl, by decide⟩, ⟨_, rfl, by decide⟩, ⟨_, rfl, by decide⟩, ⟨_, rfl, by decide⟩, ⟨_, rfl, by decide⟩⟩

theorem witness_AlternateBankAndDevicesAreReachedByFew :
    (∃ t, exec .exAf { base with af := 1 } = .next t ∧ t.afAlt ≠ base.afAlt) ∧
    (∃ t, exec .exx { base with hl := 1 } = .next t ∧ t.hlAlt ≠ base.hlAlt) ∧
    (∃ t, exec .inFC base = .next t ∧ t.portDraws ≠ base.portDraws) ∧
    (∃ t, exec (.nextregN 1 2) { base with cfg := { Config.default with extRegDevice := true } } = .next t ∧ t.extCalls ≠ base.extCalls) :=
  ⟨⟨_, rfl, by decide⟩, ⟨_, rfl, by decide⟩, ⟨_, rfl, by decide⟩, ⟨_, rfl, by decide⟩⟩

theorem witness_StepRunsTheDecodedInstruction :
    let s := { base.write 0x8000 0x77 with dec := .extendedPending }
    s.pendingService = none ∧ decodeCall s.cfg s.dec (s.byteAt 0) (s.byteAt 1) (s.byteAt 2) =
      (.extNoop 0x77, 1) ∧ s.cfg.memDevice = .ram := by decide

theorem witness_CallsRunTheWholeInstruction :
    let s := (((base.write 0x8000 0xDD).write 0x8001 0xCB).write 0x8002 0x05).write 0x8003 0x46
    s.dec = .idle ∧ s.instrBytes = [] ∧ s.pendingService = none ∧
    decodeBytes s.cfg [0xDD, 0xCB, 0x05, 0x46] = .ok (.bitMXd .ix 5 0 6) ∧
    Instr.isPrefixRow (.bitMXd .ix 5 0 6) = false ∧
    ∀ (k : Nat) (h : k < [(0xDD : Byte), 0xCB, 0x05, 0x46].length),
      s.byteAt k = [(0xDD : Byte), 0xCB, 0x05, 0x46][k] := by decide

theorem witness_StepKeepsInvariant :
    let s := { stored with dec := .indexPending .ix, instrBytes := [0xDD], instrStart := 0x7FFF, intBlocked := true }
    s.Inv ∧ s.cfg.memDevice = .ram ∧ ∃ t, step s = .next t :=
  ⟨⟨by decide, by decide, by decide, fun h => State.ramConsistent_congr (s := stored) h rfl rfl rfl stored_ramConsistent⟩,
    rfl, _, rfl⟩

theorem witness_HostOperationsKeepInvariant :
    stored.Inv ∧ base.Inv ∧ ∃ t, hostOp (.restoreSnapshot base) stored = .next t :=
  ⟨⟨by decide, by decide, by decide, fun _ => stored_ramConsistent⟩,
    ⟨by decide, by decide, by decide, fun _ => ⟨trivial, fun _ _ h => by cases h⟩⟩, _, rfl⟩

theorem witness_CallsNeverStopAndHostRefusalsAreTwo :
    3 ≤ 4 ∧ { stored with cfg := Config.allRows }.cfg ≠ stored.cfg := by decide

theorem witness_ByteStoresWriteOneByte : stored.mem.wf = true := by decide
theorem witness_WordStoresWriteTwoBytes : stored.mem.wf = true := by decide
theorem witness_PushesWriteBelowTheStackPointer : { stored with sp := 0x0001 }.mem.wf = true := by decide
theorem witness_PopsReadTheStack : stored.cfg.memDevice = .ram ∧ stored.mem.wf = true := by decide
theorem witness_ExchangesSwapPairs : stored.mem.wf = true := by decide
theorem witness_BlockTransfersMoveOneByte : stored.mem.wf = true := by decide
theorem witness_TransparentTransfersSkipTheAccumulator : stored.mem.wf = true := by decide
theorem witness_StepsOfBytes : stored.mem.wf = true := by decide
theorem witness_RotatesAndShifts : stored.mem.wf = true := by decide
theorem witness_BitWrites : stored.mem.wf = true := by decide
theorem witness_DigitRotates : stored.mem.wf = true := by decide
theorem witness_BlockPortTransfersMoveOneByte : stored.mem.wf = true := by decide

theorem witness_DecimalArithmeticIsExact :
    let s := { base with af := 0x9901 }
    s.a.toNat / 16 < 10 ∧ s.a.toNat % 16 < 10 ∧ (0x99 : Byte).toNat / 16 < 10 ∧ (0x99 : Byte).toNat % 16 < 10 := by decide

theorem witness_MissingEntriesOnlyFetch :
    let s := (base.write 0x8000 0xED).write 0x8001 0xA4
    s.dec = .idle ∧ s.instrBytes = [] ∧ s.pendingService = none ∧ s.byteAt 0 = 0xED ∧ s.byteAt 1 = 0xA4 ∧
    (160 ≤ (0xA4 : Byte).toNat ∧ (0xA4 : Byte).toNat < 192 ∧ 4 ≤ (0xA4 : Byte).toNat % 8) ∧
    ((0xA4 : Byte) ∈ z80nCodes ∧ s.cfg.extOpsEnabled = false) := by decide

theorem witness_CallsPushTheReturnAddress :
    stored.mem.wf = true ∧ stored.cond .nz = true ∧ stored.cond .m = false := by decide

theorem witness_ReturnsPopTheProgramCounter : stored.cond .p = true ∧ stored.cond .pe = false := by decide

theorem witness_ReturnsUndoEntries :
    stored.cfg.memDevice = .ram ∧ { stored with sp := 0x0001 }.mem.wf = true ∧
    { stored with sp := 0x0001, nmi := true }.pendingService = some .acceptNmi := by decide

theorem witness_PixelAddressesFollowTheRows :
    (190 : Byte).toNat < 191 ∧ { base with de := 0xBEFF }.de = HAppend.hAppend (190 : Byte) (255 : Byte) := by decide

theorem witness_PrefixBytesHoldOffSignals :
    let s := { base.write 0x8000 0xDD with dec := .indexPending .iy, resetSig := true, nmi := true }
    let u := { base.write 0x8000 0xFD with dec := .indexPending .ix }
    { base with dec := .bitPending }.dec ≠ .idle ∧ { base with dec := .extendedPending }.dec ≠ .idle ∧
    { base with dec := .indexBitPending .iy, nmi := true }.dec ≠ .idle ∧
    (s.dec = .indexPending .iy ∧ s.read s.pc = if Idx.ix = .ix then 0xDD else 0xFD) ∧
    (u.dec = .indexPending .ix ∧ u.read u.pc = if Idx.iy = .ix then 0xDD else 0xFD) := by decide

/-- Every clause of both orders, with the later conditions standing where the earlier fail. -/
theorem witness_SignalsAreServicedInOrder :
    let all := { base with int := true, iff1 := true, halted := true, resetSig := true, nmi := true }
    let z := { all with cfg := { Config.default with signalOrder := .z80 } }
    all.dec = .idle ∧ z.dec = .idle ∧
    all.pendingService = some .acceptInt ∧ { all with iff1 := false }.pendingService = some .haltedSpin ∧
    { all with intBlocked := true, halted := false }.pendingService = some .reset ∧
    { all with int := false, halted := false, resetSig := false }.pendingService = some .acceptNmi ∧
    z.pendingService = some .reset ∧ { z with resetSig := false }.pendingService = some .acceptNmi ∧
    { z with resetSig := false, nmi := false }.pendingService = some .acceptInt ∧
    { z with resetSig := false, nmi := false, iff1 := false }.pendingService = some .haltedSpin ∧
    base.pendingService = none ∧ { base with cfg := { Config.default with signalOrder := .z80 } }.pendingService = none := by decide

theorem witness_AcceptedInterruptsEnterTheirHandler :
    let s := { stored with int := true, iff1 := true, halted := true }
    s.mem.wf = true ∧ s.pendingService = some .acceptInt ∧ s.im = .m0 ∧
    { s with im := .m1 }.pendingService = some .acceptInt ∧ { s with im := .m2 }.pendingService = some .acceptInt := by decide

theorem witness_NonMaskableInterruptsEnterTheirHandler :
    { stored with nmi := true }.mem.wf = true ∧ { stored with nmi := true }.pendingService = some .acceptNmi := by decide

theorem witness_SpinAndResetChangeWhatTheySay :
    { base with halted := true }.pendingService = some .haltedSpin ∧
    { base with resetSig := true }.pendingService = some .reset := by decide

theorem witness_EnableInterruptsShadowsOneInstruction :
    let s := { base.write 0x8000 0xFB with int := true }
    s.pendingService = none ∧ s.currentInstr.isEi = true ∧ s.halted = false ∧ s.resetSig = false ∧ s.nmi = false ∧
    s.int = true ∧ s.cfg.eiDelay = true ∧
    (let t := after { (base.write 0x8000 0xFB).write16 0x8001 0x4DED with int := true }
     t.cfg.eiDelay = true ∧ decodeBytes t.cfg [0xED, 0x4D] = .ok .reti ∧ t.byteAt 0 = 0xED ∧ t.byteAt 1 = 0x4D ∧
     callCount .idle [0xED, 0x4D] = 2 ∧ t.int = true) ∧
    { s with cfg := { Config.default with eiDelay := false } }.pendingService = none ∧
    { s with cfg := { Config.default with eiDelay := false } }.currentInstr.isEi = true ∧
    { base with intBlocked := true }.pendingService = none ∧ { base with intBlocked := true }.currentInstr.isEi = false ∧
    { base with intBlocked := true }.currentInstr.isPrefixRow = false := by decide

theorem witness_ContentionModelHasNoEffect : ∃ t, step stored = .next t := ⟨_, rfl⟩

/-! ### Signals and the host: rows of 95_test_vectors.md -/

/-- The mode-2 vector at {0xFF, 0xFF} and address 0 (R489). -/
theorem test_mode_2_vector_wraps :
    let t := after { (base.write 0xFFFF 0x00).write 0x0000 0x40 with int := true, iff1 := true, im := .m2, i := 0xFF, sp := 0x9000 }
    t.pc = 0x4000 ∧ t.wz = 0x4000 ∧ t.ticks = 19 ∧ t.read 0x8FFF = 0x80 ∧ t.read 0x8FFE = 0x00 := by decide

theorem test_interrupt_leaves_halt :
    let t := after { base with int := true, iff1 := true, iff2 := true, im := .m1, halted := true, sp := 0x9000 }
    t.pc = 0x0038 ∧ t.read 0x8FFE = 0x01 ∧ t.halted = false ∧ t.iff1 = false ∧ t.iff2 = false ∧ t.int = true ∧ t.r = 1 := by
  decide

theorem test_nmi_saves_iff1 :
    let t := after { base with nmi := true, iff1 := true, sp := 0x9000 }
    t.pc = 0x0066 ∧ t.iff1 = false ∧ t.iff2 = true ∧ t.nmi = false ∧ t.ticks = 11 := by decide

/-- Under `doc` a halted core spins although RESET and NMI are pending (R484, 90_conflicts.md C1). -/
theorem test_doc_order_spins_before_reset :
    let t := after { base with halted := true, resetSig := true, nmi := true, r := 0xFF }
    t.pc = 0x8000 ∧ t.r = 0x80 ∧ t.ticks = 4 ∧ t.halted = true ∧ t.resetSig = true := by decide

theorem test_host_refuses_mode_3 : hostOp (.setInterruptMode 3) base = .refused .interruptModeOutOfRange := rfl

/-- The two readings of an opcode-table word: bytes in order, and the table's hexadecimal string read as a number. -/
theorem test_table_words :
    decodeTableWord 8 0x76 = some .halt ∧ decodeTableWord 16 0xB0ED = some .ldir ∧ decodeTableWord 16 0xEDB0 = some .ldir ∧
    decodeTableWord 32 0x0600CBDD = some (.rlcMXd .ix 0) ∧ decodeTableWord 8 0xDD = some .prefixDD := by decide

end Sys2Proof.Tests
end

section
/-! The stack instructions and the calls and returns (R12, R204, R205, R386 to R392, R456). Each of them is one push or one
pop, perhaps with a jump, and its ticks: what such an outcome does is proved once, and each instruction cites it. -/

namespace Sys2Proof.Machine

/-! ### Writing a pair or an index register, as a whole state -/

theorem State.idx_setIdx (s : State) (x y : Idx) (v : Word) : (s.setIdx x v).idx y = if y = x then v else s.idx y := by
  cases x <;> cases y <;> rfl

/-- Writing an index register changes IX and IY only. -/
theorem State.setIdx_frame (s : State) (x : Idx) (v : Word) :
    s.setIdx x v = { s with ix := (s.setIdx x v).ix, iy := (s.setIdx x v).iy } := by
  cases x <;> rfl

/-- Writing a pair of `rp2` changes AF, BC, DE and HL only. -/
theorem State.setRp2_frame (s : State) (q : Rp2) (v : Word) :
    s.setRp2 q v = { s with af := (s.setRp2 q v).af, bc := (s.setRp2 q v).bc, de := (s.setRp2 q v).de,
                            hl := (s.setRp2 q v).hl } := by
  cases q <;> rfl

/-! ### Pushes -/

/-- An outcome that is one push and `n` ticks writes the word below SP, high byte first, and lowers SP by 2 (R12). -/
theorem State.stores_below_sp_of_push {o : Out} {s : State} {v : Word} {n : Nat}
    (ho : o = .next ((s.push16 v).tick n)) (hw : s.mem.wf = true) :
    ∃ t, o = .next t ∧ s.storesWord t (s.sp - 2) v ∧
      t = { s with mem := t.mem, sp := s.sp - 2, ticks := s.ticks + n,
                   deviceCalls := pushWrites s.sp v ++ s.deviceCalls } :=
  ⟨_, ho, s.storesWord_push16 v hw, congrArg (State.tick · n) (s.push16_frame v)⟩

/-- Settles O19: each of the four forms is one push of its word. -/
theorem pushesWriteBelowTheStackPointer : Obligations.PushesWriteBelowTheStackPointer := by
  intro s x q nn hw e he
  simp only [List.mem_cons, List.not_mem_nil, or_false] at he
  obtain rfl | rfl | rfl | rfl := he <;> exact State.stores_below_sp_of_push rfl hw

/-! ### Pops -/

theorem State.toNat_stackTop (s : State) : s.stackTop.toNat = s.wordAt s.sp := s.toNat_read16 s.sp

/-- A pop changes SP and the record of device calls only. -/
theorem State.popped_frame (s : State) :
    s.popped = { s with sp := s.sp + 2, deviceCalls := s.wordReads s.sp ++ s.deviceCalls } := rfl

/-- An outcome that pops into a pair of `rp2`: the pair holds the word at SP and no other pair changes (R205). -/
theorem State.loads_pair_of_pop {o : Out} {s : State} {q : Rp2} {n : Nat}
    (ho : o = .next ((s.popped.setRp2 q s.stackTop).tick n)) :
    ∃ t, o = .next t ∧ (t.rp2 q).toNat = s.wordAt s.sp ∧ (∀ k, k ≠ q → t.rp2 k = s.rp2 k) ∧
      t = { s with af := t.af, bc := t.bc, de := t.de, hl := t.hl, sp := s.sp + 2, ticks := s.ticks + n,
                   deviceCalls := s.wordReads s.sp ++ s.deviceCalls } := by
  rw [s.popped_frame] at ho
  refine ⟨_, ho, ?_, fun k hk => ?_, ?_⟩
  · show ((State.setRp2 _ q s.stackTop).rp2 q).toNat = _
    rw [State.rp2_setRp2, if_pos rfl, s.toNat_stackTop]
  · exact (State.rp2_setRp2 _ q k _).trans (if_neg hk)
  · exact congrArg (State.tick · n) (State.setRp2_frame _ q s.stackTop)

/-- An outcome that pops into an index register: it holds the word at SP and the other one does not change (R205). -/
theorem State.loads_idx_of_pop {o : Out} {s : State} {x : Idx} {n : Nat}
    (ho : o = .next ((s.popped.setIdx x s.stackTop).tick n)) :
    ∃ t, o = .next t ∧ (t.idx x).toNat = s.wordAt s.sp ∧ (∀ y, y ≠ x → t.idx y = s.idx y) ∧
      t = { s with ix := t.ix, iy := t.iy, sp := s.sp + 2, ticks := s.ticks + n,
                   deviceCalls := s.wordReads s.sp ++ s.deviceCalls } := by
  rw [s.popped_frame] at ho
  refine ⟨_, ho, ?_, fun y hy => ?_, ?_⟩
  · show ((State.setIdx _ x s.stackTop).idx x).toNat = _
    rw [State.idx_setIdx, if_pos rfl, s.toNat_stackTop]
  · exact (State.idx_setIdx _ x y _).trans (if_neg hy)
  · exact congrArg (State.tick · n) (State.setIdx_frame _ x s.stackTop)

/-- With the default RAM, a POP right after a PUSH gets the word pushed, and SP is back where it was (R12, R66). -/
theorem exec_popQ_after_pushQ (s : State) (q q2 : Rp2) (hr : s.cfg.memDevice = .ram) (hw : s.mem.wf = true) :
    ∃ t u, exec (.pushQ q) s = .next t ∧ exec (.popQ q2) t = .next u ∧ u.rp2 q2 = s.rp2 q ∧ u.sp = s.sp := by
  have top : ((s.push16 (s.rp2 q)).charge 11 1).stackTop = s.rp2 q := s.stackTop_push16 (s.rp2 q) hr hw
  refine ⟨_, _, rfl, rfl, ?_, ?_⟩
  · show (State.setRp2 _ q2 _).rp2 q2 = s.rp2 q
    rw [State.rp2_setRp2, if_pos rfl, top]
  · show (State.setRp2 _ q2 _).sp = s.sp
    rw [State.setRp2_sp]
    exact BitVec.sub_add_cancel s.sp 2

/-- Settles O20: the three forms are one pop into their register, and a pop reads back what a push stored. -/
theorem popsReadTheStack : Obligations.PopsReadTheStack := by
  intro s x q q2
  refine ⟨fun i hi => ?_, State.loads_idx_of_pop rfl, exec_popQ_after_pushQ s q q2⟩
  simp only [List.mem_cons, List.not_mem_nil, or_false] at hi
  obtain rfl | rfl := hi <;> exact State.loads_pair_of_pop rfl

/-! ### Calls -/

/-- RST's target in arithmetic (R392). -/
theorem rstTarget_eq (p : BitVec 3) : rstTarget p = BitVec.ofNat 16 (8 * p.toNat) := by
  revert p; decide

/-- An outcome that pushes PC, jumps to `target` and takes `n` ticks (R386). -/
theorem State.calls_of_push_jump {o : Out} {s : State} {target : Word} {n : Nat}
    (ho : o = .next (((s.push16 s.pc).jump target).tick n)) (hw : s.mem.wf = true) :
    ∃ t, o = .next t ∧ s.storesWord t (s.sp - 2) s.pc ∧
      t = { s with mem := t.mem, sp := s.sp - 2, pc := target, wz := target, ticks := s.ticks + n,
                   deviceCalls := pushWrites s.sp s.pc ++ s.deviceCalls } := by
  refine ⟨_, ho, s.storesWord_push16 s.pc hw, ?_⟩
  exact congrArg (fun u : State => (u.jump target).tick n) (s.push16_frame s.pc)

/-- CALL cc, plain or after DD or FD: the extra fetch is in the rule's total, so its meaning charges the same (R387). -/
theorem exec_callCc_forms {s : State} {k : Cond} {nn : Word} {x : Idx} {i : Instr}
    (hi : i = .callCc k nn ∨ i = .callCcX x k nn) :
    exec i s = .next (if s.cond k then ((s.push16 s.pc).jump nn).tick 13 else (s.setWz nn).tick 6) := by
  obtain rfl | rfl := hi <;> rfl

/-- Settles O44: CALL, RST and a taken CALL cc are one push of PC and a jump. -/
theorem callsPushTheReturnAddress : Obligations.CallsPushTheReturnAddress := by
  intro s x nn p hw
  refine ⟨fun e he => ?_, fun k i hi => ?_⟩
  · rw [← rstTarget_eq] at he
    simp only [List.mem_cons, List.not_mem_nil, or_false] at he
    obtain rfl | rfl | rfl | rfl := he <;> exact State.calls_of_push_jump rfl hw
  · simp only [List.mem_cons, List.not_mem_nil, or_false] at hi
    refine ⟨fun hc => State.calls_of_push_jump ?_ hw, fun hc => ?_⟩
    · rw [exec_callCc_forms hi, if_pos hc]
    · rw [exec_callCc_forms hi, if_neg (Bool.eq_false_iff.1 hc)]; rfl

/-! ### Returns -/

/-- An outcome that pops PC and WZ, leaves `b` in IFF1 and takes `n` ticks (R388, R390, R391). -/
theorem State.returns_of_pop_jump {o : Out} {s : State} {b : Bool} {n : Nat}
    (ho : o = .next ({ s.popped.jump s.stackTop with iff1 := b }.tick n)) :
    ∃ t, o = .next t ∧ t.pc.toNat = s.wordAt s.sp ∧
      t = { s with sp := s.sp + 2, pc := t.pc, wz := t.pc, iff1 := b, ticks := s.ticks + n,
                   deviceCalls := s.wordReads s.sp ++ s.deviceCalls } := by
  refine ⟨_, ho, s.toNat_stackTop, ?_⟩
  exact congrArg (fun u : State => { u.jump s.stackTop with iff1 := b }.tick n) s.popped_frame

/-- RET cc, plain or after DD or FD (R389). -/
theorem exec_retCc_forms {s : State} {k : Cond} {x : Idx} {i : Instr} (hi : i = .retCc k ∨ i = .retCcX x k) :
    exec i s = .next (if s.cond k then s.returnPc.tick 7 else s.tick 1) := by
  obtain rfl | rfl := hi <;> rfl

/-- Settles O45: every return is one pop into PC and WZ; only RETI and RETN change IFF1. -/
theorem returnsPopTheProgramCounter : Obligations.ReturnsPopTheProgramCounter := by
  intro s x y k
  refine ⟨fun e he => ?_, fun i hi => ?_⟩
  · simp only [List.mem_cons, List.not_mem_nil, or_false] at he
    obtain rfl | rfl | rfl | rfl := he <;> exact State.returns_of_pop_jump rfl
  · simp only [List.mem_cons, List.not_mem_nil, or_false] at hi
    refine ⟨fun hc => State.returns_of_pop_jump (b := s.iff1) ?_, fun hc => ?_⟩
    · rw [exec_retCc_forms hi, if_pos hc]; rfl
    · rw [exec_retCc_forms hi, if_neg (Bool.eq_false_iff.1 hc)]; rfl

end Sys2Proof.Machine
end

section
/-! What an instruction can do, said once for all 284 of them: its meaning is a sequence of actions, each of which
writes data registers, calls a device, or makes a change that is reserved to the instruction. A statement about all
instructions is then a statement about one action. -/

namespace Sys2Proof.Machine

/-! ### Actions -/

/-- One action of the instruction `i`, from `s` to `t`: registers and ticks, a device call, or a write that is the
privilege of the instructions named with it (R23, R28 to R33, R61, R102, R499). -/
inductive Act (i : Instr) : State → State → Prop
  | regs {s t : State}
      (h : t = { s with af := t.af, bc := t.bc, de := t.de, hl := t.hl, ix := t.ix, iy := t.iy, sp := t.sp, pc := t.pc,
                        wz := t.wz, ticks := t.ticks })
      (hk : s.ticks ≤ t.ticks) : Act i s t
  | read (s : State) (a : Word) : Act i s (s.afterRead a)
  | write (s : State) (a : Word) (v : Byte) : Act i s (s.write a v)
  | portRead (s : State) (p : Word) (h : i.usesPorts = true) : Act i s (s.portRead p)
  | portWrite (s : State) (p : Word) (v : Byte) (h : i.usesPorts = true) : Act i s (s.portWrite p v)
  | extRegWrite (s : State) (r v : Byte) (h : i.usesExtRegs = true) : Act i s (s.extRegWrite r v)
  | setI (s : State) (v : Byte) (h : i = .ldIA) : Act i s (s.setI v)
  | setR (s : State) (v : Byte) (h : i = .ldRA) : Act i s (s.setR v)
  | setIm (s : State) (m : IntMode) (h : ∃ y, i = .im y) : Act i s (s.setIm m)
  | setIffs (s : State) (b : Bool) (h : i = .di ∨ (∃ x, i = .diX x) ∨ i = .ei ∨ ∃ x, i = .eiX x) :
      Act i s (s.setIffs b)
  | restoreIff1 (s : State) (h : i = .reti ∨ ∃ y, i = .retn y) : Act i s { s with iff1 := s.iff2 }
  | haltHere (s : State) (h : i = .halt ∨ ∃ x, i = .haltX x) : Act i s s.haltHere
  | exAf (s : State) (h : i = .exAf ∨ ∃ x, i = .exAfX x) : Act i s s.exAf
  | exx (s : State) (h : i = .exx ∨ ∃ x, i = .exxX x) : Act i s s.exx
  | enterPrefix (s : State) (st : DecoderState) (h : i.isPrefixRow = true) : Act i s (s.enterPrefix st)

/-- The actions of `i` lead from `s` to `t`. -/
def Acts (i : Instr) : State → State → Prop := Relation.ReflTransGen (Act i)

namespace Acts

variable {i : Instr} {s t u : State} {a : Word} {v : Byte} {x : Idx}

theorem refl : Acts i s s := Relation.ReflTransGen.refl

theorem tail (hs : Acts i s t) (h : Act i t u) : Acts i s u := Relation.ReflTransGen.tail hs h

/-! ### Registers and ticks -/

theorem regs (hs : Acts i s t)
    (h : u = { t with af := u.af, bc := u.bc, de := u.de, hl := u.hl, ix := u.ix, iy := u.iy, sp := u.sp, pc := u.pc,
                      wz := u.wz, ticks := u.ticks })
    (hk : t.ticks ≤ u.ticks := by exact Nat.le_refl _) : Acts i s u := hs.tail (.regs h hk)

theorem charge {n k : Nat} (h : Acts i s t) : Acts i s (t.charge n k) := h.regs rfl (Nat.le_add_right ..)

theorem setR8 {r : Reg8} (h : Acts i s t) : Acts i s (t.setR8 r v) := by cases r <;> exact h.regs rfl

theorem setIdx {w : Word} (h : Acts i s t) : Acts i s (t.setIdx x w) := by cases x <;> exact h.regs rfl

theorem setHalf {b : Half} (h : Acts i s t) : Acts i s (t.setHalf x b v) := by cases b <;> exact h.setIdx

theorem setR8X {r : Reg8} (h : Acts i s t) : Acts i s (t.setR8X x r v) := by
  unfold State.setR8X
  split
  · exact h.setHalf
  · exact h.setHalf
  all_goals exact h.setR8

theorem setRp {p : Rp} {w : Word} (h : Acts i s t) : Acts i s (t.setRp p w) := by cases p <;> exact h.regs rfl

theorem setRp2 {q : Rp2} {w : Word} (h : Acts i s t) : Acts i s (t.setRp2 q w) := by cases q <;> exact h.regs rfl

/-! ### Devices -/

theorem read (h : Acts i s t) : Acts i s (t.afterRead a) := h.tail (.read t a)

theorem read16 (h : Acts i s t) : Acts i s (t.afterRead16 a) := h.read.read

theorem write (h : Acts i s t) : Acts i s (t.write a v) := h.tail (.write t a v)

theorem write16 {w : Word} (h : Acts i s t) : Acts i s (t.write16 a w) := h.write.write

theorem push16 {w : Word} (h : Acts i s t) : Acts i s (t.push16 w) := h.write.write.regs rfl

theorem popped (h : Acts i s t) : Acts i s t.popped := h.read16.regs rfl

theorem portRead (h : Acts i s t) (hp : i.usesPorts = true) : Acts i s (t.portRead a) := h.tail (.portRead t a hp)

theorem portWrite (h : Acts i s t) (hp : i.usesPorts = true) : Acts i s (t.portWrite a v) :=
  h.tail (.portWrite t a v hp)

/-! ### Shared operations -/

variable {g : Byte → Byte → Byte × Byte} {c : State → Bool} {d : Word}

theorem modR8 {r : Reg8} (h : Acts i s t) : Acts i s (t.modR8 r g) := h.setR8.regs rfl

theorem modHalf {b : Half} (h : Acts i s t) : Acts i s (t.modHalf x b g) := h.setHalf.regs rfl

theorem modMem (h : Acts i s t) : Acts i s (t.modMem a g) := h.read.write.regs rfl

theorem modXd {e : Byte} (h : Acts i s t) : Acts i s (t.modXd x e g) := (h.regs rfl).modMem

theorem repeatWhile (h : Acts i s t) : Acts i s (t.repeatWhile c) := by
  unfold State.repeatWhile
  split
  · exact (h.regs rfl).charge
  · exact h.charge

theorem repeatKeepWz (h : Acts i s t) : Acts i s (t.repeatKeepWz c) := by
  unfold State.repeatKeepWz
  split
  · exact (h.regs rfl).charge
  · exact h.charge

theorem exSp {w : Word} (h : Acts i s t) : Acts i s (t.exSp w) := h.read16.write.write

theorem blockLoad (h : Acts i s t) : Acts i s (t.blockLoad d) := h.read.write.regs rfl

theorem blockCompare (h : Acts i s t) : Acts i s (t.blockCompare d) := h.read.regs rfl

theorem rld (h : Acts i s t) : Acts i s t.rld := h.read.write.regs rfl

theorem rrd (h : Acts i s t) : Acts i s t.rrd := h.read.write.regs rfl

theorem jumpIf {b : Bool} (h : Acts i s t) : Acts i s (t.jumpIf b a) := by
  unfold State.jumpIf
  split <;> exact h.regs rfl

theorem relIf {b : Bool} {m n k : Nat} (h : Acts i s t) : Acts i s (t.relIf b v m n k) := by
  unfold State.relIf
  split
  · exact (h.regs rfl).charge
  · exact h.charge

theorem callIf {b : Bool} {m n k : Nat} (h : Acts i s t) : Acts i s (t.callIf b a m n k) := by
  unfold State.callIf
  split
  · exact (h.push16.regs rfl).charge
  · exact (h.regs rfl).charge

theorem returnPc (h : Acts i s t) : Acts i s t.returnPc := h.popped.regs rfl

theorem returnIf {b : Bool} {m n k : Nat} (h : Acts i s t) : Acts i s (t.returnIf b m n k) := by
  unfold State.returnIf
  split
  · exact h.returnPc.charge
  · exact h.charge

theorem returnFromInterrupt (h : Acts i s t) (hi : i = .reti ∨ ∃ y, i = .retn y) : Acts i s t.returnFromInterrupt :=
  (h.popped.regs rfl).tail (.restoreIff1 (t.popped.jump t.stackTop) hi)

theorem inFlags (h : Acts i s t) (hp : i.usesPorts = true) : Acts i s t.inFlags := (h.portRead hp).regs rfl

theorem blockIn (h : Acts i s t) (hp : i.usesPorts = true) : Acts i s (t.blockIn d) := (h.portRead hp).write.regs rfl

theorem blockOut (h : Acts i s t) (hp : i.usesPorts = true) : Acts i s (t.blockOut d) := (h.read.portWrite hp).regs rfl

theorem writeUnlessA (h : Acts i s t) : Acts i s (t.writeUnlessA v) := by
  unfold State.writeUnlessA
  split
  · exact h.write
  · exact h

theorem blockLoadX (h : Acts i s t) : Acts i s (t.blockLoadX d) := h.read.writeUnlessA.regs rfl

theorem patternLoad (h : Acts i s t) : Acts i s t.patternLoad := h.read.writeUnlessA.regs rfl

end Acts

/-- Every instruction completes, and its meaning is a sequence of its actions: one shape for each way of the model's
operations, from the registers alone to the decoder. -/
theorem exec_acts (i : Instr) (s : State) : ∃ t, exec i s = .next t ∧ Acts i s t := by
  cases i
  all_goals refine ⟨_, rfl, ?_⟩
  -- registers and ticks
  case ldAI | ldAR | ldSpHl | ldSpX | exDeHl | exDeHlX | daa | daaX | cpl | cplX | neg | ccf | ccfX | scf | scfX | nop
      | nopX | extNoop | addHlRp | adcHlRp | sbcHlRp | rlca | rlcaX | rla | rlaX | rrca | rrcaX | rra | rraX | bitR | jp
      | jpX | jr | jrX | jpHl | jpIdx | swapnib | mirrorA | setae | testN | bsla | bsra | bsrl | bsrf | brlc | mulDE
      | addDeA | addDeNn | addHlA | addHlNn | pixeldn | pixelad | addBcA | addBcNn =>
    exact (Acts.refl.regs rfl).charge
  case addR | addRX | addXH | addN | addNX | adcR | adcRX | adcXH | adcN | adcNX | subR | subRX | subXH | subN | subNX
      | sbcR | sbcRX | sbcXH | sbcN | sbcNX | andR | andRX | andXH | andN | andNX | xorR | xorRX | xorXH | xorN | xorNX
      | orR | orRX | orXH | orN | orNX | cpR | cpRX | cpXH | cpN | cpNX =>
    exact (Acts.refl.regs rfl).charge
  case ldRR | ldRRX | ldRN | ldRNX => exact Acts.refl.setR8.charge
  case ldRRXH => exact Acts.refl.setR8X.charge
  case ldXHN => exact Acts.refl.setHalf.charge
  case incXH | decXH => exact Acts.refl.modHalf.charge
  case incR | incRX | decR | decRX | rlcR | rrcR | rlR | rrR | slaR | sraR | sllR | srlR | setR | resR =>
    exact Acts.refl.modR8.charge
  case ldRpNn | ldRpNnX | incRp | incRpX | decRp | decRpX => exact Acts.refl.setRp.charge
  case ldXNn | incX | decX => exact Acts.refl.setIdx.charge
  case addXRp => exact ((Acts.refl.regs rfl).setIdx.regs rfl).charge
  case jpCc | jpCcX => exact Acts.refl.jumpIf.charge
  case jrCc | jrCcX => exact Acts.refl.relIf
  case djnz | djnzX => exact Acts.refl.setR8.relIf
  -- memory
  case ldRMHl => exact Acts.refl.read.setR8.charge
  case ldRMXd => exact (Acts.refl.regs rfl).read.setR8.charge
  case ldABc | ldABcX | ldADe | ldADeX | ldAMem | ldAMemX | bitMHl => exact (Acts.refl.read.regs rfl).charge
  case bitMXd => exact ((Acts.refl.regs rfl).read.regs rfl).charge
  case addMHl | adcMHl | subMHl | sbcMHl | andMHl | xorMHl | orMHl | cpMHl => exact (Acts.refl.read.regs rfl).charge
  case addMXd | adcMXd | subMXd | sbcMXd | andMXd | xorMXd | orMXd | cpMXd =>
    exact ((Acts.refl.regs rfl).read.regs rfl).charge
  case ldHlMem => exact (Acts.refl.read16.regs rfl).charge
  case ldXMem => exact (Acts.refl.read16.setIdx.regs rfl).charge
  case ldRpMem => exact (Acts.refl.read16.setRp.regs rfl).charge
  case ldMHlR | ldMHlN => exact Acts.refl.write.charge
  case ldMXdR | ldMXdN => exact (Acts.refl.regs rfl).write.charge
  case ldBcA | ldBcAX | ldDeA | ldDeAX | ldMemA | ldMemAX => exact (Acts.refl.write.regs rfl).charge
  case ldMemHl | ldMemX | ldMemRp => exact (Acts.refl.write16.regs rfl).charge
  case incMHl | decMHl | rlcMHl | rrcMHl | rlMHl | rrMHl | slaMHl | sraMHl | sllMHl | srlMHl | setMHl | resMHl =>
    exact Acts.refl.modMem.charge
  case incMXd | decMXd => exact (Acts.refl.regs rfl).modMem.charge
  case rlcMXd | rrcMXd | rlMXd | rrMXd | slaMXd | sraMXd | sllMXd | srlMXd | setMXd | resMXd =>
    exact Acts.refl.modXd.charge
  case rlcMXdR | rrcMXdR | rlMXdR | rrMXdR | slaMXdR | sraMXdR | sllMXdR | srlMXdR | setMXdR | resMXdR =>
    exact Acts.refl.modXd.setR8.charge
  case rld => exact Acts.refl.rld.charge
  case rrd => exact Acts.refl.rrd.charge
  case ldi | ldd => exact Acts.refl.blockLoad.charge
  case ldir | lddr => exact Acts.refl.blockLoad.repeatWhile
  case cpi | cpd => exact Acts.refl.blockCompare.charge
  case cpir | cpdr => exact Acts.refl.blockCompare.repeatWhile
  case ldix | lddx => exact Acts.refl.blockLoadX.charge
  case ldirx | lddrx => exact Acts.refl.blockLoadX.repeatKeepWz
  case ldpirx => exact Acts.refl.patternLoad.repeatKeepWz
  case ldws => exact (Acts.refl.read.write.regs rfl).charge
  -- the stack
  case pushQ | pushQX | pushX | pushNn => exact Acts.refl.push16.charge
  case popQ | popQX => exact Acts.refl.popped.setRp2.charge
  case popX => exact Acts.refl.popped.setIdx.charge
  case exSpHl => exact (Acts.refl.exSp.regs rfl).charge
  case exSpX => exact (Acts.refl.exSp.setIdx.regs rfl).charge
  case call | callX | rst | rstX => exact (Acts.refl.push16.regs rfl).charge
  case callCc | callCcX => exact Acts.refl.callIf
  case ret | retX => exact Acts.refl.returnPc.charge
  case retCc | retCcX => exact Acts.refl.returnIf
  -- the other devices
  case inAN | inANX => exact ((Acts.refl.portRead rfl).regs rfl).charge
  case inRC => exact (Acts.refl.inFlags rfl).setR8.charge
  case inFC => exact (Acts.refl.inFlags rfl).charge
  case ini | ind => exact (Acts.refl.blockIn rfl).charge
  case inir | indr => exact (Acts.refl.blockIn rfl).repeatWhile
  case outNA | outNAX | outCR | outC0 => exact ((Acts.refl.portWrite rfl).regs rfl).charge
  case outi | outd => exact (Acts.refl.blockOut rfl).charge
  case otir | otdr => exact (Acts.refl.blockOut rfl).repeatWhile
  case outinb => exact ((Acts.refl.read.portWrite rfl).regs rfl).charge
  case jpC => exact ((Acts.refl.portRead rfl).regs rfl).charge
  case nextregN | nextregA => exact (Acts.refl.tail (.extRegWrite s _ _ rfl)).charge
  -- the control registers, the alternate bank and the decoder
  case ldIA => exact (Acts.refl.tail (.setI s _ rfl)).charge
  case ldRA => exact (Acts.refl.tail (.setR s _ rfl)).charge
  case im y => exact (Acts.refl.tail (.setIm s _ ⟨y, rfl⟩)).charge
  case di | diX | ei | eiX => exact (Acts.refl.tail (.setIffs s _ (by simp))).charge
  case reti => exact (Acts.refl.returnFromInterrupt (.inl rfl)).charge
  case retn y => exact (Acts.refl.returnFromInterrupt (.inr ⟨y, rfl⟩)).charge
  case halt => exact (Acts.refl.tail (.haltHere s (.inl rfl))).charge
  case haltX x => exact (Acts.refl.tail (.haltHere s (.inr ⟨x, rfl⟩))).charge
  case exAf => exact (Acts.refl.tail (.exAf s (.inl rfl))).charge
  case exAfX x => exact (Acts.refl.tail (.exAf s (.inr ⟨x, rfl⟩))).charge
  case exx => exact (Acts.refl.tail (.exx s (.inl rfl))).charge
  case exxX x => exact (Acts.refl.tail (.exx s (.inr ⟨x, rfl⟩))).charge
  case prefixCB | prefixDD | prefixED | prefixFD | prefixCBX | prefixAfterX =>
    exact Acts.refl.tail (.enterPrefix s _ rfl)

/-! ### What the invariant says of the devices -/

/-- Memory is in its canonical form and, with the default RAM, answers the latest writes: the invariant's clauses on the
devices. -/
def State.memSound (s : State) : Prop := s.mem.wf = true ∧ (s.cfg.memDevice = .ram → s.ramConsistent)

theorem State.memSound_congr {s t : State} (hc : t.cfg = s.cfg) (hm : t.mem = s.mem)
    (hd : t.deviceCalls = s.deviceCalls) (h : s.memSound) : t.memSound :=
  ⟨hm ▸ h.1, fun hr => State.ramConsistent_congr (hc ▸ hr) hc hm hd (h.2 (hc ▸ hr))⟩

theorem State.memSound_afterRead {s : State} (a : Word) (h : s.memSound) : (s.afterRead a).memSound :=
  ⟨h.1, fun hr => s.ramConsistent_afterRead a hr (h.2 hr)⟩

theorem State.memSound_write {s : State} (a : Word) (v : Byte) (h : s.memSound) : (s.write a v).memSound :=
  ⟨s.wf_write a v h.1, fun hr => s.ramConsistent_write a v hr h.1 (h.2 hr)⟩

theorem State.memSound_called {s : State} {c : DeviceCall} (hc : c.isPort = true ∨ c.isExtReg = true)
    (h : s.memSound) : (s.called c).memSound :=
  ⟨h.1, fun hr => State.ramConsistent_called hr hc (h.2 hr)⟩

theorem State.memSound_extRegWrite {s : State} (r v : Byte) (h : s.memSound) : (s.extRegWrite r v).memSound := by
  unfold State.extRegWrite
  split
  · exact State.memSound_called (.inr rfl) (State.memSound_called (.inr rfl) h)
  · exact h

/-! ### What an action keeps -/

/-- The fields that no instruction changes (R36, R39, R482). -/
def State.unreached (s : State) : Config × Bool × Bool × Bool × Byte × List Byte × Word × Word :=
  (s.cfg, s.resetSig, s.nmi, s.int, s.opcode, s.instrBytes, s.instrStart, s.prevPC)

namespace Act

variable {i : Instr} {s t : State}

theorem unreached_eq (h : Act i s t) : t.unreached = s.unreached := by
  cases h with
  | regs h => exact (congrArg State.unreached h :)
  | extRegWrite => simp [State.unreached]
  | _ => rfl

theorem ticks_le (h : Act i s t) : s.ticks ≤ t.ticks := by
  cases h with
  | regs _ hk => exact hk
  | extRegWrite => simp
  | _ => exact Nat.le_refl _

theorem deviceCalls_suffix (h : Act i s t) : s.deviceCalls <:+ t.deviceCalls := by
  cases h with
  | regs h => rw [(congrArg State.deviceCalls h :)]
  | extRegWrite r v =>
    unfold State.extRegWrite
    split
    · exact ⟨[.extSetValue v, .extSelect r], rfl⟩
    · exact List.suffix_rfl
  | read | write | portRead | portWrite => exact List.suffix_cons ..
  | _ => exact List.suffix_rfl

theorem memSound (h : Act i s t) (hs : s.memSound) : t.memSound := by
  cases h with
  | regs h =>
    exact State.memSound_congr (congrArg State.cfg h :) (congrArg State.mem h :) (congrArg State.deviceCalls h :) hs
  | read a => exact State.memSound_afterRead a hs
  | write a v => exact State.memSound_write a v hs
  | portRead p =>
    exact State.memSound_congr rfl rfl rfl (State.memSound_called (c := .portRead p (s.portIn p)) (.inl rfl) hs)
  | portWrite => exact State.memSound_called (.inl rfl) hs
  | extRegWrite r v => exact State.memSound_extRegWrite r v hs
  | _ => exact State.memSound_congr rfl rfl rfl hs

theorem wf_mem (h : Act i s t) (hs : s.mem.wf = true) : t.mem.wf = true := by
  cases h with
  | regs h => rw [(congrArg State.mem h :)]; exact hs
  | write a v => exact s.wf_write a v hs
  | extRegWrite => simpa using hs
  | _ => exact hs

theorem i_eq (h : Act i s t) (hi : i ≠ .ldIA) : t.i = s.i := by
  cases h with
  | regs h => exact (congrArg State.i h :)
  | extRegWrite => exact State.extRegWrite_i ..
  | setI _ h => exact absurd h hi
  | _ => rfl

theorem r_eq (h : Act i s t) (hi : i ≠ .ldRA) : t.r = s.r := by
  cases h with
  | regs h => exact (congrArg State.r h :)
  | extRegWrite => exact State.extRegWrite_r ..
  | setR _ h => exact absurd h hi
  | _ => rfl

theorem im_eq (h : Act i s t) (hi : ¬ ∃ y, i = .im y) : t.im = s.im := by
  cases h with
  | regs h => exact (congrArg State.im h :)
  | extRegWrite => exact State.extRegWrite_im ..
  | setIm _ h => exact absurd h hi
  | _ => rfl

theorem iff1_eq (h : Act i s t)
    (hi : ¬ (i = .di ∨ (∃ x, i = .diX x) ∨ i = .ei ∨ (∃ x, i = .eiX x) ∨ i = .reti ∨ ∃ y, i = .retn y)) :
    t.iff1 = s.iff1 := by
  cases h with
  | regs h => exact (congrArg State.iff1 h :)
  | extRegWrite => exact State.extRegWrite_iff1 ..
  | setIffs _ h => exact absurd (by tauto) hi
  | restoreIff1 h => exact absurd (by tauto) hi
  | _ => rfl

theorem iff2_eq (h : Act i s t) (hi : ¬ (i = .di ∨ (∃ x, i = .diX x) ∨ i = .ei ∨ ∃ x, i = .eiX x)) :
    t.iff2 = s.iff2 := by
  cases h with
  | regs h => exact (congrArg State.iff2 h :)
  | extRegWrite => exact State.extRegWrite_iff2 ..
  | setIffs _ h => exact absurd h hi
  | _ => rfl

theorem halted_eq (h : Act i s t) (hi : ¬ (i = .halt ∨ ∃ x, i = .haltX x)) : t.halted = s.halted := by
  cases h with
  | regs h => exact (congrArg State.halted h :)
  | extRegWrite => exact State.extRegWrite_halted ..
  | haltHere h => exact absurd h hi
  | _ => rfl

theorem afAlt_eq (h : Act i s t) (hi : ¬ (i = .exAf ∨ ∃ x, i = .exAfX x)) : t.afAlt = s.afAlt := by
  cases h with
  | regs h => exact (congrArg State.afAlt h :)
  | extRegWrite => exact State.extRegWrite_afAlt ..
  | exAf h => exact absurd h hi
  | _ => rfl

theorem pairsAlt_eq (h : Act i s t) (hi : ¬ (i = .exx ∨ ∃ x, i = .exxX x)) :
    (t.bcAlt, t.deAlt, t.hlAlt) = (s.bcAlt, s.deAlt, s.hlAlt) := by
  cases h with
  | regs h => exact (congrArg (fun u : State => (u.bcAlt, u.deAlt, u.hlAlt)) h :)
  | extRegWrite => simp
  | exx h => exact absurd h hi
  | _ => rfl

theorem ports_eq (h : Act i s t) (hi : ¬ i.usesPorts = true) :
    (t.portTrace, t.portDraws) = (s.portTrace, s.portDraws) := by
  cases h with
  | regs h => exact (congrArg (fun u : State => (u.portTrace, u.portDraws)) h :)
  | extRegWrite => unfold State.extRegWrite; split <;> rfl
  | portRead _ h => exact absurd h hi
  | portWrite _ _ h => exact absurd h hi
  | _ => rfl

theorem extCalls_eq (h : Act i s t) (hi : ¬ i.usesExtRegs = true) : t.extCalls = s.extCalls := by
  cases h with
  | regs h => exact (congrArg State.extCalls h :)
  | extRegWrite _ _ h => exact absurd h hi
  | _ => rfl

end Act

/-! ### What an instruction keeps -/

namespace Acts

variable {i : Instr} {s t : State}

/-- What every action of `i` keeps true, the instruction keeps true. -/
theorem invariant {P : State → Prop} (hP : ∀ u v, Act i u v → P u → P v) (h : Acts i s t) (hs : P s) : P t := by
  induction h with
  | refl => exact hs
  | tail _ h ih => exact hP _ _ h ih

/-- What every action of `i` leaves unchanged, the instruction leaves unchanged. -/
theorem keeps {α : Type} {f : State → α} (hf : ∀ {u v}, Act i u v → f v = f u) (h : Acts i s t) : f t = f s :=
  h.invariant (P := fun u => f u = f s) (fun _ _ ha hu => (hf ha).trans hu) rfl

theorem ticks_le (h : Acts i s t) : s.ticks ≤ t.ticks :=
  h.invariant (P := fun u => s.ticks ≤ u.ticks) (fun _ _ ha hu => hu.trans ha.ticks_le) (Nat.le_refl _)

theorem deviceCalls_suffix (h : Acts i s t) : s.deviceCalls <:+ t.deviceCalls :=
  h.invariant (P := fun u => s.deviceCalls <:+ u.deviceCalls) (fun _ _ ha hu => hu.trans ha.deviceCalls_suffix)
    List.suffix_rfl

theorem cfg_eq (h : Acts i s t) : t.cfg = s.cfg := congrArg (·.1) (h.keeps Act.unreached_eq)

theorem int_eq (h : Acts i s t) : t.int = s.int := congrArg (·.2.2.2.1) (h.keeps Act.unreached_eq)

end Acts

/-- What an instruction's meaning ends in is reached by its actions. -/
theorem acts_of_exec {i : Instr} {s t : State} (h : exec i s = .next t) : Acts i s t := by
  obtain ⟨u, hu, ha⟩ := exec_acts i s
  cases h.symm.trans hu
  exact ha

/-- Settles O5: no action changes the unreached fields, lowers the tick counter, or shortens the record. -/
theorem noInstructionStops : Obligations.NoInstructionStops := by
  intro i s
  obtain ⟨t, ht, ha⟩ := exec_acts i s
  have hu := ha.keeps Act.unreached_eq
  simp only [State.unreached, Prod.mk.injEq] at hu
  obtain ⟨hcfg, hreset, hnmi, hint, hop, hbytes, hstart, hprev⟩ := hu
  obtain ⟨calls, hcalls⟩ := ha.deviceCalls_suffix
  exact ⟨t, ht, hcfg, hreset, hnmi, hint, hop, hbytes, hstart, hprev, ha.ticks_le, ⟨calls, hcalls.symm⟩,
    ha.invariant fun _ _ h => h.wf_mem⟩

/-- Settles O6: each control register is kept by every action but those of its own writers. -/
theorem controlRegistersHaveFewWriters : Obligations.ControlRegistersHaveFewWriters := by
  intro i s t h
  have ha := acts_of_exec h
  exact ⟨not_imp_comm.1 fun hi => ha.keeps (·.i_eq hi), not_imp_comm.1 fun hi => ha.keeps (·.r_eq hi),
    not_imp_comm.1 fun hi => ha.keeps (·.im_eq hi), not_imp_comm.1 fun hi => ha.keeps (·.iff1_eq hi),
    not_imp_comm.1 fun hi => ha.keeps (·.iff2_eq hi), not_imp_comm.1 fun hi => ha.keeps (·.halted_eq hi)⟩

/-- Settles O7: the same of the alternate bank, the port device and the extended-register device. -/
theorem alternateBankAndDevicesAreReachedByFew : Obligations.AlternateBankAndDevicesAreReachedByFew := by
  intro i s t h
  have ha := acts_of_exec h
  refine ⟨not_imp_comm.1 fun hi => ha.keeps (·.afAlt_eq hi), fun hne => by_contra fun hi => ?_,
    fun hne => by_contra fun hi => ?_, not_imp_comm.1 fun hi => ha.keeps (·.extCalls_eq hi)⟩
  · have hk := ha.keeps (f := fun u => (u.bcAlt, u.deAlt, u.hlAlt)) (·.pairsAlt_eq hi)
    simp only [Prod.mk.injEq] at hk
    tauto
  · have hk := ha.keeps (f := fun u => (u.portTrace, u.portDraws)) (·.ports_eq hi)
    simp only [Prod.mk.injEq] at hk
    tauto

end Sys2Proof.Machine
end

section
/-! The decoder's calls: a prefix byte runs its own row, and no row depends on a byte after those that it fetches. -/

namespace Sys2Proof

/-! ### Prefix bytes -/

/-- A prefix byte runs the row that consumes it, which fetches nothing else. -/
theorem decodeCall_of_prefixState {st st' : DecoderState} {b : Byte} (h : prefixState st b = some st') (cfg : Config)
    (b1 b2 : Byte) :
    ∃ i, decodeCall cfg st b b1 b2 = (i, 1) ∧ i.isPrefixRow = true ∧
      ∀ s, Machine.exec i s = .next (s.enterPrefix st') := by
  cases st with
  | idle =>
    simp only [prefixState] at h
    split at h <;> cases h <;> exact ⟨_, rfl, rfl, fun _ => rfl⟩
  | indexPending x =>
    simp only [prefixState] at h
    split at h <;> cases h <;> exact ⟨_, rfl, rfl, fun _ => rfl⟩
  | bitPending | extendedPending | indexBitPending => cases h

/-- A prefix byte never leads back to Idle. -/
theorem prefixState_ne_idle {st : DecoderState} {b : Byte} : prefixState st b ≠ some .idle := by
  cases st with
  | idle | indexPending => simp only [prefixState]; split <;> simp
  | bitPending | extendedPending | indexBitPending => simp [prefixState]

/-! ### Operand bytes -/

/-- What a table can answer for one opcode, as a function of the two bytes after it: it uses no more of them than it
says are fetched, and EI has no operand. -/
inductive TableEntry : (Byte → Byte → Instr × Nat) → Prop
  | bare (i : Instr) : TableEntry fun _ _ => (i, 1)
  | one (f : Byte → Instr) (h : ∀ a, (f a).isEi = false) : TableEntry fun a _ => (f a, 2)
  | two (f : Byte → Byte → Instr) (h : ∀ a b, (f a b).isEi = false) : TableEntry fun a b => (f a b, 3)

namespace TableEntry

variable {d : Byte → Byte → Instr × Nat}

theorem eq_of_one (h : TableEntry d) {a b : Byte} (hn : (d a b).2 = 1) (a' b' : Byte) : d a' b' = d a b := by
  cases h with
  | bare => rfl
  | one | two => simp at hn

theorem eq_of_two (h : TableEntry d) {a b : Byte} (hn : (d a b).2 = 2) (b' : Byte) : d a b' = d a b := by
  cases h with
  | one => rfl
  | bare | two => simp at hn

theorem eq_one_of_isEi (h : TableEntry d) {a b : Byte} (hi : (d a b).1.isEi = true) : (d a b).2 = 1 := by
  cases h with
  | bare => rfl
  | one f hf => simp [hf] at hi
  | two f hf => simp [hf] at hi

/-- The base table (R108). -/
theorem of_decodeBase (o : Byte) : TableEntry fun a b => decodeBase o a b := by
  unfold decodeBase decodeBase0 decodeBase1 decodeBase2 decodeBase3
  dsimp only
  repeat' split
  all_goals constructor
  all_goals intros; rfl

/-- The index table (R97). -/
theorem of_decodeIndex (x : Idx) (o : Byte) : TableEntry fun a b => decodeIndex x o a b := by
  unfold decodeIndex decodeIndex0 decodeIndex1 decodeIndex2 decodeIndexAluHalf decodeIndex3
  dsimp only
  repeat' split
  all_goals constructor
  all_goals intros; rfl

/-- The extended table without the gated subset (R110). -/
theorem of_decodeExtendedBase (o : Byte) : TableEntry fun a b => decodeExtendedBase o a b := by
  unfold decodeExtendedBase decodeExtended1 decodeExtended2
  dsimp only
  repeat' split
  all_goals constructor
  all_goals intros; rfl

/-- The gated subset's codes are table entries too, where they are dispatched (R440). -/
theorem of_decodeExtended (cfg : Config) (o : Byte) : TableEntry fun a b => decodeExtended cfg o a b := by
  unfold decodeExtended
  by_cases hg : cfg.extOn o = true
  · simp only [if_pos hg]
    unfold decodeZ80n
    dsimp only
    split
    rotate_right
    · exact of_decodeExtendedBase o
    all_goals constructor
    all_goals intros; rfl
  · simp only [if_neg hg]
    unfold decodeZ80n
    dsimp only
    split <;> exact of_decodeExtendedBase _

theorem isEi_decodeIndexBit (x : Idx) (d o : Byte) : (decodeIndexBit x d o).isEi = false := by
  unfold decodeIndexBit
  dsimp only
  repeat' split
  all_goals rfl

/-- One call's instruction depends on the bytes that the call fetches. -/
theorem of_decodeCall (cfg : Config) (st : DecoderState) (b : Byte) : TableEntry (decodeCall cfg st b) := by
  cases st with
  | idle => exact of_decodeBase b
  | indexPending x => exact of_decodeIndex x b
  | bitPending => exact .bare (decodeBit b)
  | extendedPending => exact of_decodeExtended cfg b
  | indexBitPending x => exact .one (decodeIndexBit x b) (isEi_decodeIndexBit x b)

end TableEntry

end Sys2Proof
end

section
/-! Fetching: what the fetches of a call return and leave, and `State.wholeFetched` taken call by call. -/

namespace Sys2Proof.Machine

/-! ### What a fetch reads -/

theorem State.read_congr {s t : State} (hc : t.cfg = s.cfg) (hm : t.mem = s.mem) (hd : t.deviceCalls = s.deviceCalls)
    (a : Word) : t.read a = s.read a := by
  simp only [State.read, hc, hm, hd]

theorem State.byteAt_zero (s : State) : s.byteAt 0 = s.read s.pc := by
  simp [State.byteAt, State.fetchBytes]

theorem Word.add_one_add (a : Word) (n : Nat) : a + 1#16 + BitVec.ofNat 16 n = a + BitVec.ofNat 16 (n + 1) := by
  rw [BitVec.ofNat_add, BitVec.add_comm (BitVec.ofNat 16 n), ← BitVec.add_assoc]

/-- The byte after `k + 1` fetches is the byte after `k` fetches once one has been made. -/
theorem State.byteAt_succ (s : State) (k : Nat) : s.byteAt (k + 1) = s.fetchByte.byteAt k :=
  congrArg (State.fetchBytes k s.fetchByte).read (Word.add_one_add s.pc k).symm

/-- What the next fetches return depends on PC and the memory device only. -/
theorem State.byteAt_congr {s t : State} (hc : t.cfg = s.cfg) (hm : t.mem = s.mem) (hd : t.deviceCalls = s.deviceCalls)
    (hp : t.pc = s.pc) (k : Nat) : t.byteAt k = s.byteAt k := by
  induction k generalizing s t with
  | zero => rw [State.byteAt_zero, State.byteAt_zero, hp, State.read_congr hc hm hd]
  | succ k ih =>
    rw [State.byteAt_succ, State.byteAt_succ]
    refine ih hc hm ?_ ?_
    · simp [hp, hd, State.read_congr hc hm hd]
    · simp [hp]

/-- The bytes `bs` are what the next fetches return. -/
def State.holds (s : State) (bs : List Byte) : Prop := ∀ (k : Nat) (h : k < bs.length), s.byteAt k = bs[k]

theorem State.holds_cons {s t : State} {b : Byte} {bs : List Byte} (h : s.holds (b :: bs)) (hc : t.cfg = s.cfg)
    (hm : t.mem = s.mem) (hd : t.deviceCalls = s.fetchByte.deviceCalls) (hp : t.pc = s.pc + 1) : t.holds bs := by
  intro k hk
  rw [State.byteAt_congr (s := s.fetchByte) hc hm hd hp, ← State.byteAt_succ]
  exact h (k + 1) (by simpa using hk)

theorem State.byteAt_zero_of_holds {s : State} {b : Byte} {bs : List Byte} (h : s.holds (b :: bs)) : s.byteAt 0 = b :=
  h 0 (by simp)

/-- Fetching the bytes that stand at PC: PC passes them, the buffer takes them, and each is one read. -/
theorem State.fetchBytes_of_holds {s : State} {bs : List Byte} (h : s.holds bs) :
    State.fetchBytes bs.length s = { s with
      pc := s.pc + BitVec.ofNat 16 bs.length, instrBytes := s.instrBytes ++ bs
      deviceCalls := fetchReads s.pc bs s.deviceCalls } := by
  induction bs generalizing s with
  | nil => simp [State.fetchBytes, fetchReads]
  | cons b bs ih =>
    have hb : s.read s.pc = b := s.byteAt_zero ▸ State.byteAt_zero_of_holds h
    have hn : s.fetchByte.holds bs := State.holds_cons h rfl rfl rfl rfl
    rw [List.length_cons, State.fetchBytes, ih hn]
    simp [State.fetchByte, State.afterRead, State.called, fetchReads, hb, Word.add_one_add]

/-! ### The refresh update, counted -/

theorem refreshedBy_lt (n : Nat) (r : Byte) : refreshedBy n r < 256 := by
  have := r.isLt
  unfold refreshedBy
  omega

theorem ofNat_refreshedBy_zero (r : Byte) : BitVec.ofNat 8 (refreshedBy 0 r) = r := by
  apply BitVec.eq_of_toNat_eq
  have := r.isLt
  rw [BitVec.toNat_ofNat]
  unfold refreshedBy
  omega

theorem toNat_ofNat_refreshedBy (n : Nat) (r : Byte) : (BitVec.ofNat 8 (refreshedBy n r)).toNat = refreshedBy n r := by
  rw [BitVec.toNat_ofNat]
  exact Nat.mod_eq_of_lt (refreshedBy_lt n r)

/-- One update and then `n` are `n + 1`. -/
theorem refreshedBy_refreshNext (n : Nat) (r : Byte) : refreshedBy n (refreshNext r) = refreshedBy (n + 1) r := by
  have h := toNat_refreshNext r
  have := r.isLt
  unfold refreshedBy at h ⊢
  omega

/-! ### The state with an instruction's remaining bytes fetched -/

/-- The state in which the instruction runs whose bytes still to fetch are `bs`: `State.wholeFetched`, from any decoder
state. -/
def State.fetchedFrom (s : State) (bs : List Byte) : State :=
  { s with
    pc := s.pc + BitVec.ofNat 16 bs.length
    r := BitVec.ofNat 8 (refreshedBy (opcodeFetches s.dec bs) s.r)
    ticks := s.ticks + 4 * opcodeFetches s.dec bs
    instrStart := if s.dec = .idle then s.pc else s.instrStart
    instrBytes := s.instrBytes ++ bs
    deviceCalls := fetchReads s.pc bs s.deviceCalls
    opcode := opcodeByte s.dec bs
    dec := terminalState s.dec bs
    intBlocked := s.intBlocked || decide (terminalState s.dec bs ≠ .idle) }

theorem State.fetchedFrom_idle {s : State} {bs : List Byte} (hd : s.dec = .idle) (hb : s.instrBytes = []) :
    s.fetchedFrom bs = s.wholeFetched bs := by
  simp [State.fetchedFrom, State.wholeFetched, hd, hb]

/-- An opcode fetch, as a whole state (R104). -/
theorem State.fetchOpcode_eq (s : State) :
    s.fetchOpcode = { s with
      pc := s.pc + 1, r := refreshNext s.r, ticks := s.ticks + 4
      instrStart := if s.dec = .idle then s.pc else s.instrStart
      instrBytes := s.instrBytes ++ [s.read s.pc]
      deviceCalls := .memRead s.pc (s.read s.pc) :: s.deviceCalls } := by
  rw [State.fetchOpcode, State.markStart]
  by_cases hd : s.dec = .idle
  · simp only [if_pos hd, State.fetchByte, State.afterRead, State.called, State.refresh, State.tick]
    rfl
  · simp only [if_neg hd, State.fetchByte, State.afterRead, State.called, State.refresh, State.tick]

/-- A prefix call fetches one byte of the instruction and leaves the others to fetch. -/
theorem State.fetchedFrom_prefixCall {s : State} {b : Byte} {bs : List Byte} {st : DecoderState}
    (hb : s.read s.pc = b) (hp : prefixState s.dec b = some st) (hst : terminalState st bs ≠ .idle) :
    (s.prefixCall st).fetchedFrom bs = s.fetchedFrom (b :: bs) := by
  have hne : st ≠ .idle := fun h => prefixState_ne_idle (h ▸ hp)
  rw [State.prefixCall, State.fetchOpcode_eq, hb]
  simp [State.fetchedFrom, State.enterPrefix, opcodeFetches, opcodeByte, terminalState, hp, fetchReads,
    refreshedBy_refreshNext, hst, hne, Word.add_one_add]
  omega

/-- From the middle of an instruction no prefix byte leads to Idle. -/
theorem terminalState_ne_idle {st : DecoderState} (h : st ≠ .idle) (bs : List Byte) :
    terminalState st bs ≠ .idle := by
  induction bs generalizing st with
  | nil => exact h
  | cons b bs ih =>
    unfold terminalState
    split
    · rename_i st' hp
      exact ih fun e => prefixState_ne_idle (e ▸ hp)
    · exact h

/-! ### The last call of an instruction -/

variable {s : State} {b : Byte} {bs : List Byte}

/-- A terminal opcode fetch with its operand bytes, as a whole state (R105, R107). -/
theorem State.fetchTerminal_eq (hh : s.holds (b :: bs)) (hn : s.nextCall.2 = (b :: bs).length) :
    s.fetchTerminal = { s with
      pc := s.pc + BitVec.ofNat 16 (b :: bs).length, r := refreshNext s.r, ticks := s.ticks + 4
      instrStart := if s.dec = .idle then s.pc else s.instrStart
      instrBytes := s.instrBytes ++ b :: bs
      deviceCalls := fetchReads s.pc (b :: bs) s.deviceCalls
      opcode := b } := by
  have hb := State.byteAt_zero_of_holds hh
  have hn' : s.nextCall.2 - 1 = bs.length := by rw [hn]; rfl
  have ho : (s.fetchOpcode.dispatching b).holds bs := by
    rw [State.fetchOpcode_eq]
    exact State.holds_cons hh rfl rfl rfl rfl
  rw [State.fetchTerminal, hn', hb, State.fetchBytes_of_holds ho, State.fetchOpcode_eq, ← s.byteAt_zero, hb]
  simp [State.dispatching, fetchReads, Word.add_one_add]

/-- In IndexBitPending the displacement and the opcode byte are fetched without a refresh (R103). -/
theorem State.fetched_indexBit {x : Idx} {d : Byte} (hh : s.holds [b, d]) (hd : s.dec = .indexBitPending x) :
    s.fetched = { s with
      pc := s.pc + BitVec.ofNat 16 [b, d].length, instrBytes := s.instrBytes ++ [b, d]
      deviceCalls := fetchReads s.pc [b, d] s.deviceCalls
      opcode := d } := by
  have h1 : s.byteAt 1 = d := hh 1 (by simp)
  have h2 : State.fetchBytes 2 s = _ := State.fetchBytes_of_holds hh
  simp only [State.fetched, hd, h1, h2]
  rfl

/-- Where the byte at PC is no prefix, the call fetches the rest of the instruction and leaves the latch of R35. -/
theorem State.fetched_of_terminal (hh : s.holds (b :: bs)) (hp : prefixState s.dec b = none)
    (hn : s.nextCall.2 = (b :: bs).length) :
    s.fetched = { s.fetchedFrom (b :: bs) with intBlocked := s.intBlocked } := by
  have ha : s.prefixAhead.isSome = false := by rw [State.prefixAhead, State.byteAt_zero_of_holds hh, hp]; rfl
  have hr : BitVec.ofNat 8 (refreshedBy 1 s.r) = refreshNext s.r :=
    BitVec.eq_of_toNat_eq ((toNat_ofNat_refreshedBy 1 s.r).trans (toNat_refreshNext s.r).symm)
  have hT : s.fetchTerminal = _ := State.fetchTerminal_eq hh hn
  cases hd : s.dec with
  | idle | indexPending =>
    simp only [State.fetched, hd, ha, hT]
    simp [State.fetchedFrom, opcodeFetches, opcodeByte, terminalState, hd, hd ▸ hp, hr]
  | bitPending | extendedPending =>
    simp only [State.fetched, hd, hT]
    simp [State.fetchedFrom, opcodeFetches, opcodeByte, terminalState, hd, hd ▸ hp, hr]
  | indexBitPending x =>
    have hl : bs.length = 1 := by
      have h2 : s.nextCall.2 = 2 := by simp only [State.nextCall, hd, decodeCall]
      simpa [h2] using hn.symm
    obtain ⟨d, rfl⟩ := List.length_eq_one_iff.1 hl
    rw [State.fetched_indexBit hh hd]
    simp [State.fetchedFrom, opcodeFetches, opcodeByte, terminalState, hd, prefixState_indexBit, ofNat_refreshedBy_zero]

/-- The same as a whole, where the latch is set in the middle of an instruction. -/
theorem State.fetched_eq_fetchedFrom (hh : s.holds (b :: bs)) (hp : prefixState s.dec b = none)
    (hn : s.nextCall.2 = (b :: bs).length) (hi : s.dec ≠ .idle → s.intBlocked = true) :
    s.fetched = s.fetchedFrom (b :: bs) := by
  have hblk : (s.intBlocked || decide (terminalState s.dec (b :: bs) ≠ .idle)) = s.intBlocked := by
    simp only [terminalState, hp]
    by_cases h : s.dec = .idle <;> simp [h, hi]
  rw [State.fetched_of_terminal hh hp hn]
  simp only [State.fetchedFrom, hblk]

end Sys2Proof.Machine
end

section
/-! The calls of a whole instruction: one for each prefix byte and one for the rest, together its meaning. -/

namespace Sys2Proof.Machine

/-! ### The two kinds of fetching call -/

variable {s : State} {i : Instr}

/-- A call that consumes a prefix byte (R102). -/
theorem step_of_prefix {st : DecoderState} (hs : s.pendingService = none)
    (hp : prefixState s.dec (s.byteAt 0) = some st) : step s = .next (s.prefixCall st) := by
  obtain ⟨i, hi, -, he⟩ := decodeCall_of_prefixState hp s.cfg (s.byteAt 1) (s.byteAt 2)
  have hc : s.currentInstr = i := congrArg Prod.fst hi
  have ha : s.prefixAhead.isSome = true := by rw [State.prefixAhead, hp]; rfl
  have hf : s.fetched = s.fetchOpcode := by
    cases hd : s.dec with
    | idle | indexPending => simp only [State.fetched, hd, ha, if_true]
    | bitPending | extendedPending | indexBitPending => simp [hd, prefixState] at hp
  simp only [step, hs, hc, he, hf, State.endCall, ha, if_true, State.prefixCall]

/-- A call that ends an instruction (R105). -/
theorem step_of_terminal {t : State} (hs : s.pendingService = none) (hp : s.prefixAhead = none)
    (he : exec s.currentInstr s.fetched = .next t) : step s = .next (t.boundary s.currentInstr.isEi) := by
  simp [step, hs, he, State.endCall, hp]

/-- In the middle of an instruction no signal is serviced (R101, R483). -/
theorem State.pendingService_of_ne_idle (h : s.dec ≠ .idle) : s.pendingService = none := if_neg h

/-- The row of a prefix byte is no instruction of its own. -/
theorem State.prefixAhead_of_not_prefixRow (h : s.currentInstr.isPrefixRow = false) : s.prefixAhead = none := by
  cases hp : s.prefixAhead with
  | none => rfl
  | some st =>
    obtain ⟨i, hi, hr, -⟩ := decodeCall_of_prefixState hp s.cfg (s.byteAt 1) (s.byteAt 2)
    have hc : s.currentInstr = i := congrArg Prod.fst hi
    rw [hc, hr] at h
    cases h

/-! ### A whole instruction -/

/-- What `decodeBytes` accepts is one row, spelled by all the bytes. -/
theorem decodeRow_of_decodeBytes {cfg : Config} {bs : List Byte} (h : decodeBytes cfg bs = .ok i) :
    decodeRow cfg .idle bs = some (i, bs.length) := by
  unfold decodeBytes at h
  split at h
  · cases h
  · rename_i j n hr
    split at h
    · cases h
    · split at h
      · cases h
      · cases h
        rw [hr, show n = bs.length by omega]

/-- The bytes that a row spells decide what the call runs, whatever follows them. -/
theorem State.nextCall_of_holds {b : Byte} {bs : List Byte} {n : Nat} (hh : s.holds (b :: bs))
    (hn : n = (b :: bs).length) (hr : decodeCall s.cfg s.dec b (bs.getD 0 0) (bs.getD 1 0) = (i, n)) :
    s.nextCall = (i, n) := by
  have he := TableEntry.of_decodeCall s.cfg s.dec b
  rw [State.nextCall, State.byteAt_zero_of_holds hh, ← hr]
  match bs, hh, hn, hr with
  | [], _, hn, hr => exact he.eq_of_one ((congrArg Prod.snd hr).trans hn) _ _
  | [c], hh, hn, hr =>
    rw [show s.byteAt 1 = c from hh 1 (by simp)]
    exact he.eq_of_two ((congrArg Prod.snd hr).trans hn) _
  | c :: d :: bs, hh, _, _ =>
    rw [show s.byteAt 1 = c from hh 1 (by simp), show s.byteAt 2 = d from hh 2 (by simp)]
    rfl

/-- What follows a prefix byte is the rest of the row. -/
theorem decodeRow_tail {cfg : Config} {st st' : DecoderState} {b : Byte} {bs : List Byte} {n : Nat}
    (hp : prefixState st b = some st') (hrow : i.isPrefixRow = false)
    (hr : decodeRow cfg st (b :: bs) = some (i, n + 1)) : decodeRow cfg st' bs = some (i, n) := by
  simp only [decodeRow, hp] at hr
  split at hr
  · obtain ⟨j, hj, hjr, -⟩ := decodeCall_of_prefixState hp cfg 0 0
    rw [hj] at hr
    have e : j = i := congrArg Prod.fst (Option.some.inj hr)
    rw [← e, hjr] at hrow
    cases hrow
  · obtain ⟨⟨j, m⟩, hd, hd'⟩ := Option.map_eq_some_iff.1 hr
    simp only [Prod.mk.injEq, Nat.add_right_cancel_iff] at hd'
    rw [hd, hd'.1, hd'.2]

theorem State.cfg_prefixCall (s : State) (st : DecoderState) : (s.prefixCall st).cfg = s.cfg := by
  rw [State.prefixCall, State.fetchOpcode_eq]
  rfl

theorem State.holds_prefixCall {b : Byte} {bs : List Byte} (hh : s.holds (b :: bs)) (st : DecoderState) :
    (s.prefixCall st).holds bs := by
  rw [State.prefixCall, State.fetchOpcode_eq]
  exact State.holds_cons hh rfl rfl rfl rfl

theorem State.calls_zero (s : State) : s.calls 0 = .next s := rfl

/-- A run is its first step and the rest. -/
theorem run_succ_of_step {M : Host.Core} {s t : M.State} (h : M.step s = .next t) (k : Nat) :
    M.run (k + 1) s = M.run k t := by
  rw [Host.Core.run, h]

theorem State.calls_succ {t : State} (h : step s = .next t) (k : Nat) : s.calls (k + 1) = t.calls k :=
  run_succ_of_step (M := core) h k

/-- The calls of the instruction whose bytes `bs` are still to fetch: none of them services a signal, and together they
run it on the state with all its bytes fetched (R101 to R107). -/
theorem State.calls_whole {bs : List Byte} (hs : s.pendingService = none) (hi : s.dec ≠ .idle → s.intBlocked = true)
    (hr : decodeRow s.cfg s.dec bs = some (i, bs.length)) (hrow : i.isPrefixRow = false) (hh : s.holds bs) :
    (∀ k < callCount s.dec bs, ∃ u, s.calls k = .next u ∧ u.pendingService = none) ∧
    ∃ t, exec i (s.fetchedFrom bs) = .next t ∧ s.calls (callCount s.dec bs) = .next (t.boundary i.isEi) := by
  induction bs generalizing s with
  | nil => cases hr
  | cons b bs ih =>
    have hb := State.byteAt_zero_of_holds hh
    cases hp : prefixState s.dec b with
    | some st =>
      have hne : st ≠ .idle := fun h => prefixState_ne_idle (h ▸ hp)
      have hstep := step_of_prefix hs (hb ▸ hp)
      obtain ⟨hk, t, ht, hc⟩ := ih (s := s.prefixCall st) (State.pendingService_of_ne_idle hne) (fun _ => rfl)
        (s.cfg_prefixCall st ▸ decodeRow_tail hp hrow hr) (State.holds_prefixCall hh st)
      rw [State.fetchedFrom_prefixCall (s.byteAt_zero ▸ hb) hp (terminalState_ne_idle hne bs)] at ht
      have hcount : callCount s.dec (b :: bs) = callCount st bs + 1 := by simp only [callCount, hp]
      rw [hcount]
      refine ⟨fun k hlt => ?_, t, ht, (State.calls_succ hstep _).trans hc⟩
      cases k with
      | zero => exact ⟨s, s.calls_zero, hs⟩
      | succ k => exact State.calls_succ hstep k ▸ hk k (Nat.lt_of_succ_lt_succ hlt)
    | none =>
      have hcount : callCount s.dec (b :: bs) = 1 := by simp only [callCount, hp]
      simp only [decodeRow, hp, Option.some.injEq] at hr
      have hn := State.nextCall_of_holds hh rfl hr
      have hc : s.currentInstr = i := congrArg Prod.fst hn
      have hf := State.fetched_eq_fetchedFrom hh hp (congrArg Prod.snd hn) hi
      obtain ⟨t, ht, -⟩ := exec_acts i (s.fetchedFrom (b :: bs))
      have hstep := step_of_terminal hs (by rw [State.prefixAhead, hb, hp]) (by rw [hc, hf, ht])
      rw [hcount]
      refine ⟨fun k hlt => ?_, t, ht, ?_⟩
      · obtain rfl : k = 0 := by omega
        exact ⟨s, s.calls_zero, hs⟩
      · rw [State.calls_succ hstep, hc]; rfl

end Sys2Proof.Machine
end

section
/-! The invariant, at construction and along every call, and what no call does: stop, or change the configuration. -/

namespace Sys2Proof.Machine

variable {s t : State}

/-! ### The invariant at an instruction boundary -/

/-- At an instruction boundary the invariant is what it says of the devices. -/
theorem State.inv_of_boundary (hd : s.dec = .idle) (hb : s.instrBytes = []) (hm : s.memSound) : s.Inv :=
  ⟨hm.1, by rw [hb, hd]; rfl, fun h => absurd hd h, hm.2⟩

/-- Settles O10: there is no instruction in flight, memory is empty and no device has been called. -/
theorem invariantHoldsAtReset : Obligations.InvariantHoldsAtReset :=
  have h (cfg : Config) (g : InitialRegs) : (State.construct cfg g).Inv :=
    State.inv_of_boundary rfl rfl ⟨rfl, fun _ => ⟨trivial, fun _ _ hv => nomatch hv⟩⟩
  ⟨h, h _ _⟩

/-! ### Prefix bytes in the buffer -/

theorem prefixesFrom_concat (st : DecoderState) (bs : List Byte) (b : Byte) :
    prefixesFrom st (bs ++ [b]) = (prefixesFrom st bs).bind (prefixState · b) := by
  induction bs generalizing st with
  | nil =>
    simp only [List.nil_append, prefixesFrom, Option.bind_some]
    cases prefixState st b <;> rfl
  | cons c bs ih =>
    simp only [List.cons_append, prefixesFrom]
    cases prefixState st c with
    | some st' => exact ih st'
    | none => rfl

/-- No prefix byte leads back to Idle, so an Idle decoder has an empty buffer. -/
theorem eq_nil_of_prefixesFrom {bs : List Byte} (h : prefixesFrom .idle bs = some .idle) : bs = [] := by
  rcases List.eq_nil_or_concat bs with rfl | ⟨cs, c, rfl⟩
  · rfl
  · rw [List.concat_eq_append, prefixesFrom_concat] at h
    obtain ⟨st, -, hp⟩ := Option.bind_eq_some_iff.1 h
    exact absurd hp prefixState_ne_idle

/-! ### Services -/

/-- `t` follows `s` with the same configuration, and what the invariant says of the devices is kept. -/
structure State.Respects (s t : State) : Prop where
  cfg : t.cfg = s.cfg
  memSound : s.memSound → t.memSound

namespace State.Respects

variable {u : State}

theorem refl (s : State) : s.Respects s := ⟨rfl, id⟩

theorem trans (h : s.Respects t) (h' : t.Respects u) : s.Respects u :=
  ⟨h'.cfg.trans h.cfg, h'.memSound ∘ h.memSound⟩

theorem of_eq (hc : t.cfg = s.cfg) (hm : t.mem = s.mem) (hd : t.deviceCalls = s.deviceCalls) : s.Respects t :=
  ⟨hc, State.memSound_congr hc hm hd⟩

theorem afterRead (s : State) (a : Word) : s.Respects (s.afterRead a) := ⟨rfl, State.memSound_afterRead a⟩

theorem write (s : State) (a : Word) (v : Byte) : s.Respects (s.write a v) := ⟨rfl, State.memSound_write a v⟩

theorem of_acts {i : Instr} (h : Acts i s t) : s.Respects t := ⟨h.cfg_eq, h.invariant fun _ _ ha => ha.memSound⟩

end State.Respects

/-- The signal services' part: neither the decoder nor the byte buffer is reached. -/
structure State.Serves (s t : State) : Prop extends State.Respects s t where
  dec : t.dec = s.dec
  instrBytes : t.instrBytes = s.instrBytes

namespace State.Serves

variable {u : State}

theorem trans (h : s.Serves t) (h' : t.Serves u) : s.Serves u :=
  ⟨h.toRespects.trans h'.toRespects, h'.dec.trans h.dec, h'.instrBytes.trans h.instrBytes⟩

/-- A change of registers and signals. -/
theorem of_eq (hc : t.cfg = s.cfg) (hm : t.mem = s.mem) (hl : t.deviceCalls = s.deviceCalls) (hd : t.dec = s.dec)
    (hb : t.instrBytes = s.instrBytes) : s.Serves t :=
  ⟨.of_eq hc hm hl, hd, hb⟩

theorem push16 (s : State) (v : Word) : s.Serves (s.push16 v) :=
  ⟨((State.Respects.write s (s.sp - 1) (hiByte v)).trans (.write _ (s.sp - 2) (loByte v))).trans (.of_eq rfl rfl rfl),
    rfl, rfl⟩

theorem afterRead16 (s : State) (a : Word) : s.Serves (s.afterRead16 a) :=
  ⟨(State.Respects.afterRead s a).trans (.afterRead _ (a + 1)), rfl, rfl⟩

theorem leaveHalt (s : State) : s.Serves s.leaveHalt := by
  rw [State.leaveHalt_eq]
  exact of_eq rfl rfl rfl rfl rfl

theorem enterHandler {vector : State → Word × State} (hv : ∀ u : State, u.Serves (vector u).2) (s : State)
    (cost : Nat) : s.Serves (s.enterHandler vector cost) := by
  have hr : s.Serves (if s.cfg.rIncOnAck then s.refresh else s) := by
    split <;> exact of_eq rfl rfl rfl rfl rfl
  exact hr.trans ((push16 _ _).trans ((hv _).trans (of_eq rfl rfl rfl rfl rfl)))

theorem intVector (s : State) : s.Serves (Machine.intVector s).2 := by
  unfold Machine.intVector
  split
  · exact of_eq rfl rfl rfl rfl rfl
  · exact of_eq rfl rfl rfl rfl rfl
  · exact afterRead16 ..

theorem acceptInt (s : State) : s.Serves s.acceptInt := by
  have hi : s.leaveHalt.Serves (s.leaveHalt.setIffs false) := of_eq rfl rfl rfl rfl rfl
  exact (leaveHalt s).trans (hi.trans (enterHandler intVector _ _))

theorem acceptNmi (s : State) : s.Serves s.acceptNmi := by
  have hn : s.Serves (if s.cfg.nmiAutoclear then { s with nmi := false } else s) := by
    split <;> exact of_eq rfl rfl rfl rfl rfl
  have hi (u : State) : u.Serves { u with iff2 := u.iff1, iff1 := false } := of_eq rfl rfl rfl rfl rfl
  have hv (u : State) : u.Serves ((0x0066, u) : Word × State).2 := of_eq rfl rfl rfl rfl rfl
  exact hn.trans ((leaveHalt _).trans ((hi _).trans (enterHandler hv _ 11)))

end State.Serves

theorem State.cfg_serve (s : State) (v : Service) : (s.serve v).cfg = s.cfg := by
  cases v with
  | acceptInt => exact (State.Serves.acceptInt s).cfg
  | acceptNmi => exact (State.Serves.acceptNmi s).cfg
  | haltedSpin | reset => rfl

/-- A service in Idle ends in Idle. -/
theorem State.inv_serve (hi : s.Inv) (hd : s.dec = .idle) (v : Service) : (s.serve v).Inv := by
  obtain ⟨hwf, hb, -, hram⟩ := hi
  have hn : s.instrBytes = [] := eq_nil_of_prefixesFrom (hd ▸ hb)
  have of_serves {t : State} (h : s.Serves t) : t.Inv :=
    State.inv_of_boundary (h.dec.trans hd) (h.instrBytes.trans hn) (h.memSound ⟨hwf, hram⟩)
  cases v with
  | acceptInt => exact of_serves (.acceptInt s)
  | acceptNmi => exact of_serves (.acceptNmi s)
  | haltedSpin => exact of_serves (.of_eq rfl rfl rfl rfl rfl)
  | reset => exact State.inv_of_boundary rfl rfl (State.memSound_congr rfl rfl rfl ⟨hwf, hram⟩)

/-! ### Fetching calls -/

namespace State.Respects

theorem fetchByte (s : State) : s.Respects s.fetchByte := (afterRead s s.pc).trans (of_eq rfl rfl rfl)

theorem fetchBytes (n : Nat) (s : State) : s.Respects (State.fetchBytes n s) := by
  induction n generalizing s with
  | zero => exact refl s
  | succ n ih => exact (fetchByte s).trans (ih s.fetchByte)

theorem fetchOpcode (s : State) : s.Respects s.fetchOpcode := by
  rw [State.fetchOpcode_eq]
  exact (afterRead s s.pc).trans (of_eq rfl rfl rfl)

theorem fetchTerminal (s : State) : s.Respects s.fetchTerminal := by
  have hd : s.fetchOpcode.Respects (s.fetchOpcode.dispatching (s.byteAt 0)) := of_eq rfl rfl rfl
  exact ((fetchOpcode s).trans hd).trans (fetchBytes _ _)

/-- A call's fetches are reads. -/
theorem fetched (s : State) : s.Respects s.fetched := by
  unfold State.fetched
  split
  case h_1 => exact (fetchBytes 2 s).trans (of_eq rfl rfl rfl)
  case h_2 | h_3 =>
    split
    · exact fetchOpcode s
    · exact fetchTerminal s
  case h_4 | h_5 => exact fetchTerminal s

end State.Respects

/-- Where no service is pending in Idle, the core is not halted (R484). -/
theorem State.not_halted_of_pendingService (hd : s.dec = .idle) (hs : s.pendingService = none) : s.halted = false := by
  rw [State.pendingService, if_pos hd, State.serviceInOrder] at hs
  cases hh : s.halted with
  | false => rfl
  | true => split at hs <;> rw [if_pos hh] at hs <;> split_ifs at hs

/-- A prefix call keeps the invariant: the byte joins the buffer and PC passes it. -/
theorem State.inv_prefixCall {st : DecoderState} (hi : s.Inv) (hs : s.pendingService = none)
    (hp : prefixState s.dec (s.read s.pc) = some st) : (s.prefixCall st).Inv := by
  obtain ⟨hwf, hb, hmid, hram⟩ := hi
  have hm : (s.prefixCall st).memSound :=
    ((State.Respects.fetchOpcode s).trans (.of_eq rfl rfl rfl)).memSound ⟨hwf, hram⟩
  refine ⟨hm.1, ?_, fun _ => ?_, hm.2⟩
  · rw [State.prefixCall, State.fetchOpcode_eq]
    exact (prefixesFrom_concat ..).trans (by rw [hb]; exact hp)
  · by_cases hd : s.dec = .idle
    · have hn : s.instrBytes = [] := eq_nil_of_prefixesFrom (hd ▸ hb)
      have hh := State.not_halted_of_pendingService hd hs
      simp [State.prefixCall, State.fetchOpcode_eq, State.enterPrefix, hd, hn, hh]
    · obtain ⟨-, hh, hpc⟩ := hmid hd
      simp [State.prefixCall, State.fetchOpcode_eq, State.enterPrefix, hd, hh, hpc, BitVec.ofNat_add, BitVec.add_assoc]

/-- Settles O11: a service ends in Idle, a prefix call extends the buffer, and an instruction acts on the devices as the
invariant says, and ends at a boundary. -/
theorem stepKeepsInvariant : Obligations.StepKeepsInvariant := by
  intro s t hi hst
  obtain ⟨v, hv, rfl⟩ | ⟨hs, u, hu, rfl⟩ := step_cases hst
  · refine State.inv_serve hi (by_contra fun hd => ?_) v
    rw [State.pendingService_of_ne_idle hd] at hv
    cases hv
  · cases hp : s.prefixAhead with
    | some st =>
      rw [Host.Outcome.next.inj (hst.symm.trans (step_of_prefix hs hp))]
      exact State.inv_prefixCall hi hs (s.byteAt_zero ▸ hp)
    | none =>
      have hm := ((State.Respects.fetched s).trans (.of_acts (acts_of_exec hu))).memSound ⟨hi.1, hi.2.2.2⟩
      rw [State.endCall, hp]
      exact State.inv_of_boundary rfl rfl (State.memSound_congr (s := u) rfl rfl rfl hm)

/-! ### No call stops -/

/-- Every call answers a next state, with the same configuration (R39, R480). -/
theorem step_next (s : State) : ∃ t, step s = .next t ∧ t.cfg = s.cfg := by
  cases hs : s.pendingService with
  | some v => exact ⟨s.serve v, by rw [step, hs], s.cfg_serve v⟩
  | none =>
    obtain ⟨t, ht, ha⟩ := exec_acts s.currentInstr s.fetched
    refine ⟨s.endCall t, by rw [step, hs, ht], ?_⟩
    have hc : t.cfg = s.cfg := ha.cfg_eq.trans (State.Respects.fetched s).cfg
    unfold State.endCall
    split <;> exact hc

theorem hostSetIm_refused {m : Nat} (h : 3 ≤ m) (s : State) : s.hostSetIm m = .refused .interruptModeOutOfRange := by
  match m, h with
  | n + 3, _ => rfl

theorem hostRestore_refused {saved s : State} (h : saved.cfg ≠ s.cfg) :
    s.hostRestore saved = .refused .snapshotOfAnotherConfiguration := if_neg h

/-- Settles O12: only `State.hostSetIm` and `State.hostRestore` have a refusal. -/
theorem callsNeverStopAndHostRefusalsAreTwo : Obligations.CallsNeverStopAndHostRefusalsAreTwo := by
  refine ⟨step_next, fun op s => ?_, fun m s h => hostSetIm_refused h s, fun saved s h => hostRestore_refused h⟩
  cases op with
  | advanceOneCycle => exact .inl (step_next s)
  | setInterruptMode m =>
    match m with
    | 0 | 1 | 2 => exact .inl ⟨_, rfl, rfl⟩
    | n + 3 => exact .inr (.inl ⟨rfl, n + 3, rfl, by omega⟩)
  | restoreSnapshot saved =>
    by_cases h : saved.cfg = s.cfg
    · exact .inl ⟨s.withCoreOf saved, if_pos h, h⟩
    · exact .inr (.inr ⟨hostRestore_refused h, saved, rfl, h⟩)
  | forceExitHalt => exact .inl ⟨_, rfl, (State.Serves.leaveHalt s).cfg⟩
  | _ => exact .inl ⟨_, rfl, rfl⟩

end Sys2Proof.Machine
end

section
/-! BIT, the halted-spin and the reset sequence, the missing extended entries, and the EI shadow. -/

namespace Sys2Proof.Machine

/-! ### BIT -/

/-- An outcome that writes the flags of a bit test into F of `u` and takes `n` ticks (R355 to R357). -/
theorem State.tests_of_bitFlags {o : Out} {u : State} {b : BitVec 3} {v xy : Byte} {n : Nat}
    (ho : o = .next ((u.setF (bitFlags b v xy u.f)).tick n)) :
    ∃ t, o = .next t ∧ bitTestFlagsTo b v xy u.f t.f ∧ t.a = u.a ∧ t = { u with af := t.af, ticks := u.ticks + n } := by
  refine ⟨_, ho, ?_, u.a_setF _, rfl⟩
  show bitTestFlagsTo b v xy u.f (u.setF (bitFlags b v xy u.f)).f
  rw [State.f_setF]
  exact bitTestFlagsTo_bitFlags b v xy u.f

/-- Settles O40: each form is the flags of one bit test, after its read and its address in WZ. -/
theorem bitTests : Obligations.BitTests := by
  intro s x r d b z e he
  simp only [List.mem_cons, List.not_mem_nil, or_false] at he
  obtain rfl | rfl | rfl := he
  · exact State.tests_of_bitFlags (u := s) (n := 0) rfl
  · exact State.tests_of_bitFlags (u := s.afterRead s.hl) (n := 4) rfl
  · exact State.tests_of_bitFlags (u := (s.setWz (s.ea x d)).afterRead (s.ea x d)) (n := 12) rfl

/-! ### The halted-spin and the reset sequence -/

theorem step_of_service {s : State} {v : Service} (h : s.pendingService = some v) : step s = .next (s.serve v) := by
  rw [step, h]

/-- Settles O58: both are one update of the state. -/
theorem spinAndResetChangeWhatTheySay : Obligations.SpinAndResetChangeWhatTheySay :=
  ⟨fun s h => ⟨s.haltedSpin, step_of_service h, toNat_refreshNext s.r, rfl⟩, fun _ => ⟨step_of_service, rfl⟩⟩

/-! ### Missing entries of the extended table -/

/-- A code that files 41 to 48 assign nothing to is a no-op of the base table (R98). -/
theorem decodeExtendedBase_missing {op : Byte}
    (h : op.toNat < 64 ∨ op = 0x77 ∨ op = 0x7F ∨ 128 ≤ op.toNat ∧ op.toNat < 160 ∨
      160 ≤ op.toNat ∧ op.toNat < 192 ∧ 4 ≤ op.toNat % 8 ∨ 192 ≤ op.toNat) :
    decodeExtendedBase op 0 0 = (.extNoop op, 1) := by
  revert op
  decide

theorem decodeZ80n_eq_none {op : Byte} (h : op ∉ z80nCodes) (a b : Byte) : decodeZ80n op a b = none := by
  unfold decodeZ80n
  dsimp only
  split
  rotate_right
  · rfl
  all_goals exact absurd (by decide) h

/-- A missing entry, where the configuration does not dispatch it either (R440). -/
theorem decodeExtended_missing {cfg : Config} {op : Byte} (hb : decodeExtendedBase op 0 0 = (.extNoop op, 1))
    (hg : op ∈ z80nCodes → cfg.extOpsEnabled = false ∨ op ∉ cfg.extSet) :
    decodeExtended cfg op 0 0 = (.extNoop op, 1) := by
  unfold decodeExtended
  split
  · rename_i d hd
    have hmem : op ∈ z80nCodes := by_contra fun h => by rw [decodeZ80n_eq_none h] at hd; cases hd
    have hoff : cfg.extOn op = false := by
      rcases hg hmem with h | h <;> simp [Config.extOn, h]
    rw [hoff]
    exact hb
  · exact hb

/-- Settles O35: the two bytes are one instruction, whose meaning changes nothing. -/
theorem missingEntriesOnlyFetch : Obligations.MissingEntriesOnlyFetch := by
  intro s hd hb hs h0 op h1 hop hg
  have hh : s.holds [0xED, op] := by
    intro k hk
    match k, hk with
    | 0, _ => exact h0
    | 1, _ => exact h1
  have hr : decodeRow s.cfg s.dec [0xED, op] = some (.extNoop op, [0xED, op].length) := by
    have hx := decodeExtended_missing (decodeExtendedBase_missing hop) hg
    rw [hd]
    show some ((decodeExtended s.cfg op 0 0).1, (decodeExtended s.cfg op 0 0).2 + 1) = _
    rw [hx]; rfl
  obtain ⟨-, t, ht, hc⟩ := State.calls_whole hs (absurd hd) hr rfl hh
  rw [hd] at hc
  rw [State.fetchedFrom_idle hd hb] at ht
  have hn : t = s.wholeFetched [0xED, op] := (Host.Outcome.next.inj ht).symm
  refine ⟨_, hc, ?_, ?_⟩
  · rw [hn]
    exact toNat_ofNat_refreshedBy 2 s.r
  · rw [hn]
    simp [State.boundary, State.wholeFetched, opcodeByte, opcodeFetches, prefixState, Instr.isEi, hd, hb]

/-! ### The EI shadow -/

variable {s : State}

/-- EI is one byte, with or without index prefixes before it. -/
theorem State.nextCall_eq_one_of_isEi (h : s.currentInstr.isEi = true) : s.nextCall.2 = 1 :=
  (TableEntry.of_decodeCall s.cfg s.dec (s.byteAt 0)).eq_one_of_isEi h

theorem isPrefixRow_of_isEi {i : Instr} (h : i.isEi = true) : i.isPrefixRow = false := by
  unfold Instr.isEi at h
  split at h
  · rfl
  · rfl
  · cases h

/-- EI sets both flip-flops, in each of its forms (R298). -/
theorem exec_of_isEi {i : Instr} (h : i.isEi = true) (u : State) : exec i u = .next (u.setIffs true) := by
  unfold Instr.isEi at h
  split at h
  · rfl
  · rfl
  · cases h

/-- The state after the call that runs EI (R105, R298). -/
def State.afterEi (s : State) : State := ((s.fetchedFrom [s.byteAt 0]).setIffs true).boundary true

theorem step_of_isEi (hs : s.pendingService = none) (he : s.currentInstr.isEi = true) : step s = .next s.afterEi := by
  have ha := State.prefixAhead_of_not_prefixRow (isPrefixRow_of_isEi he)
  have hh : s.holds [s.byteAt 0] := by
    intro k hk
    match k, hk with
    | 0, _ => rfl
  have hf := State.fetched_of_terminal hh ha (State.nextCall_eq_one_of_isEi he)
  rw [step_of_terminal hs ha (exec_of_isEi he s.fetched), he, hf]
  rfl

theorem State.afterEi_pc (s : State) : s.afterEi.pc = s.pc + 1 := rfl
theorem State.afterEi_int (s : State) : s.afterEi.int = s.int := rfl
theorem State.afterEi_cfg (s : State) : s.afterEi.cfg = s.cfg := rfl
theorem State.wholeFetched_int (s : State) (bs : List Byte) : (s.wholeFetched bs).int = s.int := rfl
theorem State.wholeFetched_cfg (s : State) (bs : List Byte) : (s.wholeFetched bs).cfg = s.cfg := rfl

/-- With no signal but INT, a call services INT or nothing. -/
theorem State.pendingService_of_int_only (hd : s.dec = .idle) (hh : s.halted = false) (hr : s.resetSig = false)
    (hn : s.nmi = false) : s.pendingService = if s.intAcceptable then some .acceptInt else none := by
  rw [State.pendingService, if_pos hd]
  unfold State.serviceInOrder
  split <;> simp [hh, hr, hn]

/-- Blocked interrupts are not accepted (R486). -/
theorem State.pendingService_ne_acceptInt (hb : s.intBlocked = true) : s.pendingService ≠ some .acceptInt := by
  have hn : s.intAcceptable = false := by simp [State.intAcceptable, hb]
  simp only [State.pendingService, State.serviceInOrder, hn, Bool.false_eq_true, if_false]
  split
  · split <;> split_ifs <;> simp
  · simp

/-- After EI only INT is pending, and under `EI_DELAY` it has to wait (R298, R484). -/
theorem State.pendingService_afterEi (hh : s.halted = false) (hr : s.resetSig = false) (hn : s.nmi = false)
    (hint : s.int = true) : s.afterEi.pendingService = if s.cfg.eiDelay then none else some .acceptInt := by
  have hi : s.afterEi.intAcceptable = !s.cfg.eiDelay := by
    show (s.int && true && !(true && s.cfg.eiDelay)) = _
    simp [hint]
  rw [State.pendingService_of_int_only (s := s.afterEi) rfl hh hr hn, hi]
  cases s.cfg.eiDelay <;> rfl

/-- At the end of the instruction after EI, INT is acceptable if IFF1 is still set, unless it was EI again (R541). -/
theorem State.intAcceptable_boundary {u : State} (b : Bool) (hint : u.int = true) (hd : u.cfg.eiDelay = true) :
    (u.boundary b).intAcceptable = (u.iff1 && !b) := by
  show (u.int && u.iff1 && !(b && u.cfg.eiDelay)) = _
  rw [hint, hd, Bool.true_and, Bool.and_true]

/-- Settles O59: EI leaves INT waiting exactly under `EI_DELAY`, the next instruction's calls run it whole, and none of
its actions reaches INT. -/
theorem enableInterruptsShadowsOneInstruction : Obligations.EnableInterruptsShadowsOneInstruction := by
  refine ⟨fun s hs he hh hr hn hint => ?_,
    fun s => ⟨_, rfl, rfl, State.pendingService_ne_acceptInt rfl, fun hs he hrow => ?_⟩⟩
  · have hpend := State.pendingService_afterEi hh hr hn hint
    refine ⟨s.afterEi, step_of_isEi hs he, rfl, s.afterEi_pc, rfl, rfl, fun hd => by rw [hpend, hd]; rfl,
      fun hd bs i hdec hrow hb => ?_⟩
    have hnone : s.afterEi.pendingService = none := by rw [hpend, hd]; rfl
    obtain ⟨hk, u, hu, hc⟩ :=
      State.calls_whole (s := s.afterEi) hnone (absurd rfl) (decodeRow_of_decodeBytes hdec) hrow hb
    rw [State.fetchedFrom_idle (s := s.afterEi) rfl rfl] at hu
    have ha := acts_of_exec hu
    have hcfg : u.cfg.eiDelay = true := by rw [ha.cfg_eq, State.wholeFetched_cfg, State.afterEi_cfg, hd]
    have hint' : u.int = true := by rw [ha.int_eq, State.wholeFetched_int, State.afterEi_int, hint]
    refine ⟨hk, u, _, hu, hc, ?_, State.intAcceptable_boundary i.isEi hint' hcfg⟩
    simp only [State.boundary, hcfg, Bool.and_true]
  · obtain ⟨u, hu, -⟩ := exec_acts (State.currentInstr { s with intBlocked := true })
      (State.fetched { s with intBlocked := true })
    refine ⟨_, step_of_terminal hs (State.prefixAhead_of_not_prefixRow hrow) hu, ?_⟩
    rw [he]
    rfl

end Sys2Proof.Machine
end

section
/-! 16-bit loads and stores, and port inputs (R198 to R203, R411 to R413). As with the stack, each is one access with
its registers and ticks: the outcome is described once for every way of naming the destination. -/

namespace Sys2Proof.Machine

variable {o : Out} {s : State} {x : Idx} {p : Rp} {nn v : Word} {n : Nat}

/-! ### Writing a pair or a register, as a whole state -/

/-- Writing a pair of `rp` changes BC, DE, HL and SP only. -/
theorem State.setRp_frame (s : State) (p : Rp) (v : Word) :
    s.setRp p v = { s with bc := (s.setRp p v).bc, de := (s.setRp p v).de, hl := (s.setRp p v).hl,
                           sp := (s.setRp p v).sp } := by
  cases p <;> rfl

/-- Writing a register changes AF, BC, DE and HL only. -/
theorem State.setR8_frame (s : State) (r : Reg8) (v : Byte) :
    s.setR8 r v = { s with af := (s.setR8 r v).af, bc := (s.setR8 r v).bc, de := (s.setR8 r v).de,
                           hl := (s.setR8 r v).hl } := by
  cases r <;> rfl

/-- F is no destination of a register write. -/
theorem State.f_setR8 (s : State) (r : Reg8) (v : Byte) : (s.setR8 r v).f = s.f := by
  cases r with
  | a => exact s.f_setA v
  | _ => rfl

/-! ### 16-bit loads -/

/-- An outcome that writes `v` into a pair of `rp` and takes `n` ticks. -/
theorem State.loads_pair_of_setRp (ho : o = .next ((s.setRp p v).tick n)) :
    ∃ t, o = .next t ∧ (∀ q, t.rp q = if q = p then v else s.rp q) ∧
      t = { s with bc := t.bc, de := t.de, hl := t.hl, sp := t.sp, ticks := s.ticks + n } :=
  ⟨_, ho, fun q => s.rp_setRp p q v, congrArg (State.tick · n) (s.setRp_frame p v)⟩

/-- An outcome that writes `v` into an index register and takes `n` ticks. -/
theorem State.loads_idx_of_setIdx (ho : o = .next ((s.setIdx x v).tick n)) :
    ∃ t, o = .next t ∧ (∀ y, t.idx y = if y = x then v else s.idx y) ∧
      t = { s with ix := t.ix, iy := t.iy, ticks := s.ticks + n } :=
  ⟨_, ho, fun y => s.idx_setIdx x y v, congrArg (State.tick · n) (s.setIdx_frame x v)⟩

/-- An outcome that reads the word at `nn` into a pair of `rp` (R200). -/
theorem State.loads_pair_of_read16
    (ho : o = .next ((((s.afterRead16 nn).setRp p (s.read16 nn)).setWz (nn + 1)).tick n)) :
    ∃ t, o = .next t ∧ (t.rp p).toNat = s.wordAt nn ∧ (∀ q, q ≠ p → t.rp q = s.rp q) ∧
      t = { s with bc := t.bc, de := t.de, hl := t.hl, sp := t.sp, wz := nn + 1, ticks := s.ticks + n,
                   deviceCalls := s.wordReads nn ++ s.deviceCalls } := by
  have hrp := (s.afterRead16 nn).rp_setRp p (v := s.read16 nn)
  refine ⟨_, ho, ?_, fun q hq => (hrp q).trans (if_neg hq), ?_⟩
  · rw [← s.toNat_read16 nn]
    exact congrArg BitVec.toNat ((hrp p).trans (if_pos rfl))
  · exact congrArg (fun u : State => (u.setWz (nn + 1)).tick n) ((s.afterRead16 nn).setRp_frame p (s.read16 nn))

/-- An outcome that reads the word at `nn` into an index register (R199). -/
theorem State.loads_idx_of_read16
    (ho : o = .next ((((s.afterRead16 nn).setIdx x (s.read16 nn)).setWz (nn + 1)).tick n)) :
    ∃ t, o = .next t ∧ (t.idx x).toNat = s.wordAt nn ∧ (∀ y, y ≠ x → t.idx y = s.idx y) ∧
      t = { s with ix := t.ix, iy := t.iy, wz := nn + 1, ticks := s.ticks + n,
                   deviceCalls := s.wordReads nn ++ s.deviceCalls } := by
  have hidx := (s.afterRead16 nn).idx_setIdx x (v := s.read16 nn)
  refine ⟨_, ho, ?_, fun y hy => (hidx y).trans (if_neg hy), ?_⟩
  · rw [← s.toNat_read16 nn]
    exact congrArg BitVec.toNat ((hidx x).trans (if_pos rfl))
  · exact congrArg (fun u : State => (u.setWz (nn + 1)).tick n) ((s.afterRead16 nn).setIdx_frame x (s.read16 nn))

/-- Settles O17: a load is one register write, of an immediate, of a word read or of a register. -/
theorem wordLoadsWriteOnePair : Obligations.WordLoadsWriteOnePair := by
  intro s x p nn
  refine ⟨fun i hi => ?_, State.loads_idx_of_setIdx rfl, ⟨_, rfl, s.toNat_read16 nn, rfl⟩,
    State.loads_idx_of_read16 rfl, State.loads_pair_of_read16 rfl, rfl, rfl⟩
  simp only [List.mem_cons, List.not_mem_nil, or_false] at hi
  obtain rfl | rfl := hi <;> exact State.loads_pair_of_setRp rfl

/-! ### 16-bit stores -/

/-- An outcome that stores the word `v` at `nn`, low byte first (R201, R202). -/
theorem State.stores_word_of_write16 (ho : o = .next (((s.write16 nn v).setWz (nn + 1)).tick n))
    (hw : s.mem.wf = true) :
    ∃ t, o = .next t ∧ s.storesWord t nn v ∧
      t = { s with mem := t.mem, wz := nn + 1, ticks := s.ticks + n,
                   deviceCalls := wordWrites nn v ++ s.deviceCalls } :=
  ⟨_, ho, s.storesWord_write16 nn v hw, rfl⟩

/-- Settles O18: each of the three forms is one store of its word. -/
theorem wordStoresWriteTwoBytes : Obligations.WordStoresWriteTwoBytes := by
  intro s x p nn hw e he
  simp only [List.mem_cons, List.not_mem_nil, or_false] at he
  obtain rfl | rfl | rfl := he <;> exact State.stores_word_of_write16 rfl hw

/-! ### Port inputs -/

/-- An outcome that reads the port {A, `k`} into A (R411). -/
theorem State.inputs_of_inAccumulator {k : Byte} (ho : o = .next ((s.inAccumulator k).tick n)) :
    ∃ t, o = .next t ∧ t.a = s.portIn (s.a ++ k) ∧ t.f = s.f ∧
      t = { s with af := t.af, wz := s.a ++ k + 1, portDraws := s.portDraws + 1, ticks := s.ticks + n,
                   deviceCalls := .portRead (s.a ++ k) (s.portIn (s.a ++ k)) :: s.deviceCalls } :=
  ⟨_, ho, (s.portRead (s.a ++ k)).a_setA _, (s.portRead (s.a ++ k)).f_setA _, rfl⟩

theorem State.f_inFlags (s : State) : s.inFlags.f = inFlagsOf (s.portIn s.bc) s.f := (s.portRead s.bc).f_setF _

theorem State.a_inFlags (s : State) : s.inFlags.a = s.a := (s.portRead s.bc).a_setF _

/-- IN F,(C) writes no register but F. -/
theorem State.r8_inFlags (s : State) (q : Reg8) : s.inFlags.r8 q = s.r8 q := by
  cases q with
  | a => exact s.a_inFlags
  | _ => rfl

/-- The flags of a byte that a port answered (R412). -/
def inputFlagsTo (v f g : Byte) : Prop :=
  flagsOf g v ∧ fPV g = evenOnes v ∧ fH g = false ∧ fN g = false ∧ fC g = fC f

theorem inputFlagsTo_inFlagsOf (v f : Byte) : inputFlagsTo v f (inFlagsOf v f) := by
  refine ⟨flagsOf_szxyWith v _ _ _ _, ?_, ?_, ?_, ?_⟩
  · simp only [inFlagsOf, szxypWith, szxyWith, fPV_flagByte, parity_eq]
  · simp only [inFlagsOf, szxypWith, szxyWith, fH_flagByte]
  · simp only [inFlagsOf, szxypWith, szxyWith, fN_flagByte]
  · simp only [inFlagsOf, szxypWith, szxyWith, fC_flagByte]

theorem State.f_inRegister (s : State) (r : Reg8) : (s.inRegister r).f = inFlagsOf (s.portIn s.bc) s.f :=
  (s.inFlags.f_setR8 r _).trans s.f_inFlags

/-- IN r,(C) writes one register with the byte. -/
theorem State.r8_inRegister (s : State) (r q : Reg8) :
    (s.inRegister r).r8 q = if q = r then s.portIn s.bc else s.r8 q := by
  rw [State.inRegister, State.r8_setR8, s.r8_inFlags]

theorem State.inRegister_frame (s : State) (r : Reg8) :
    s.inRegister r = { s with
      af := (s.inRegister r).af, bc := (s.inRegister r).bc, de := (s.inRegister r).de, hl := (s.inRegister r).hl
      wz := s.bc + 1, portDraws := s.portDraws + 1
      deviceCalls := .portRead s.bc (s.portIn s.bc) :: s.deviceCalls } :=
  s.inFlags.setR8_frame r (s.portIn s.bc)

/-- Settles O47: IN F,(C) writes the flags of the byte, and IN r,(C) one register on top of them. -/
theorem portInputs : Obligations.PortInputs := by
  intro s x r n
  refine ⟨fun i hi => ?_, fun e he => ?_⟩
  · simp only [List.mem_cons, List.not_mem_nil, or_false] at hi
    obtain rfl | rfl := hi <;> exact State.inputs_of_inAccumulator rfl
  · obtain ⟨hsz, hpv, hh, hn, hc⟩ := inputFlagsTo_inFlagsOf (s.portIn s.bc) s.f
    simp only [List.mem_cons, List.not_mem_nil, or_false] at he
    obtain rfl | rfl := he
    · rw [← s.f_inRegister r] at hsz hpv hh hn hc
      refine ⟨_, rfl, fun q => ?_, hsz, hpv, hh, hn, hc, congrArg (State.tick · 4) (s.inRegister_frame r)⟩
      simp only [Option.some.injEq]
      exact s.r8_inRegister r q
    · rw [← s.f_inFlags] at hsz hpv hh hn hc
      exact ⟨_, rfl, s.r8_inFlags, hsz, hpv, hh, hn, hc, rfl⟩

end Sys2Proof.Machine
end

section
/-! The host's operations (R515): each keeps what the invariant says of the devices, and the decoder's part of it. -/

namespace Sys2Proof.Machine

variable {s t : State}

/-! ### The instruction in flight -/

/-- What the invariant says of the instruction in flight speaks of these fields. -/
def State.flight (s : State) : DecoderState × List Byte × Bool × Bool × Word × Word :=
  (s.dec, s.instrBytes, s.intBlocked, s.halted, s.pc, s.instrStart)

/-- Where the devices are respected and the instruction in flight is left as it is, the invariant is kept. -/
theorem State.inv_of_flight_eq (hi : s.Inv) (hr : s.Respects t) (hf : t.flight = s.flight) : t.Inv := by
  obtain ⟨hwf, hb, hmid, hram⟩ := hi
  obtain ⟨hwf', hram'⟩ := hr.memSound ⟨hwf, hram⟩
  simp only [State.flight, Prod.mk.injEq] at hf
  obtain ⟨hdec, hbytes, hblk, hhalt, hpc, hstart⟩ := hf
  rw [← hdec, ← hbytes] at hb
  rw [← hdec, ← hbytes, ← hblk, ← hhalt, ← hpc, ← hstart] at hmid
  exact ⟨hwf', hb, hmid, hram'⟩

theorem State.Respects.called (s : State) {c : DeviceCall} (hc : c.isPort = true ∨ c.isExtReg = true) :
    s.Respects (s.called c) :=
  ⟨rfl, State.memSound_called hc⟩

theorem State.Respects.portRead (s : State) (p : Word) : s.Respects (s.portRead p) :=
  (called s (c := .portRead p (s.portIn p)) (.inl rfl)).trans (.of_eq rfl rfl rfl)

theorem State.memSound_of_inv (hi : s.Inv) : s.memSound :=
  have ⟨hwf, _, _, hram⟩ := hi
  ⟨hwf, hram⟩

/-! ### The operations that reach the instruction in flight -/

/-- Blocked interrupts are what the middle of an instruction asks for. -/
theorem State.inv_blockInterrupts (hi : s.Inv) : State.Inv { s with intBlocked := true } := by
  obtain ⟨hwf, hb, hmid, hram⟩ := hi
  exact ⟨hwf, hb, fun hd => ⟨rfl, (hmid hd).2⟩, hram⟩

/-- A halted core is at an instruction boundary. -/
theorem State.inv_leaveHalt (hi : s.Inv) : s.leaveHalt.Inv := by
  cases hh : s.halted with
  | false => rwa [State.leaveHalt, if_neg (by simp [hh])]
  | true =>
    have ⟨_, hb, hmid, _⟩ := hi
    have hd : s.dec = .idle := by_contra fun hd => Bool.noConfusion (hh.symm.trans (hmid hd).2.1)
    have hs := State.Serves.leaveHalt s
    exact State.inv_of_boundary (hs.dec.trans hd) (hs.instrBytes.trans (eq_nil_of_prefixesFrom (hd ▸ hb)))
      (hs.memSound (State.memSound_of_inv hi))

/-- A restored core brings its own instruction in flight and finds the devices as they are. -/
theorem State.inv_withCoreOf {saved : State} (hi : s.Inv) (hsaved : saved.Inv) (hc : saved.cfg = s.cfg) :
    (s.withCoreOf saved).Inv := by
  obtain ⟨-, hb, hmid, -⟩ := hsaved
  obtain ⟨hwf, hram⟩ := State.memSound_congr (t := s.withCoreOf saved) hc rfl rfl (State.memSound_of_inv hi)
  exact ⟨hwf, hb, hmid, hram⟩

/-- Settles O13: the operations that reach the instruction in flight, one by one, and all the others at once. -/
theorem hostOperationsKeepInvariant : Obligations.HostOperationsKeepInvariant := by
  intro op s t hi hsaved h
  cases op with
  | advanceOneCycle => exact stepKeepsInvariant s t hi h
  | reset =>
    cases h
    exact State.inv_of_boundary rfl rfl (State.memSound_congr (s := s) rfl rfl rfl (State.memSound_of_inv hi))
  | forceExitHalt => cases h; exact State.inv_leaveHalt hi
  | blockInterruptsOnce => cases h; exact State.inv_blockInterrupts hi
  | restoreSnapshot saved =>
    by_cases hc : saved.cfg = s.cfg
    · cases (if_pos hc).symm.trans h
      exact State.inv_withCoreOf hi (hsaved saved rfl) hc
    · cases (hostRestore_refused hc).symm.trans h
  | setInterruptMode m =>
    match m with
    | 0 | 1 | 2 => cases h; exact State.inv_of_flight_eq hi (.of_eq rfl rfl rfl) rfl
    | n + 3 => cases h
  | readMemory a => cases h; exact State.inv_of_flight_eq hi (.afterRead s a) rfl
  | writeMemory a v => cases h; exact State.inv_of_flight_eq hi (.write s a v) rfl
  | readPort p => cases h; exact State.inv_of_flight_eq hi (.portRead s p) rfl
  | writePort p v => cases h; exact State.inv_of_flight_eq hi (.called s (.inl rfl)) rfl
  | _ => cases h; exact State.inv_of_flight_eq hi (.of_eq rfl rfl rfl) rfl

end Sys2Proof.Machine
end

section
/-! The rows of the tables: every one is well formed (R99), and only prefix bytes run prefix rows (R102). -/

namespace Sys2Proof

variable {cfg : Config} {st : DecoderState} {x : Idx} {o a b : Byte}

/-! ### Well-formed rows -/

theorem Reg8.plain_of_ne {r : Reg8} (hh : r ≠ .h) (hl : r ≠ .l) : r.plain = true := by
  cases r with
  | h => exact absurd rfl hh
  | l => exact absurd rfl hl
  | _ => rfl

/-- The conditions of JR are the first four. -/
theorem Cond.isJr_ofSel_and_three (y : BitVec 3) : (Cond.ofSel (y &&& 3)).isJr = true := by
  revert y; decide

theorem wf_decodeBase (cfg : Config) (o a b : Byte) : (decodeBase o a b).1.wf cfg = true := by
  unfold decodeBase decodeBase0 decodeBase1 decodeBase2 decodeBase3
  dsimp only
  repeat' split
  all_goals try rfl
  exact Cond.isJr_ofSel_and_three _

/-- LD r,r' after an index prefix is one row where neither register is substituted, and another where one is (R97). -/
theorem wf_decodeIndex1 (cfg : Config) (x : Idx) (o a : Byte) : (decodeIndex1 x o a).1.wf cfg = true := by
  unfold decodeIndex1
  split
  · split
    · assumption
    · rename_i r r2 _ _ h
      show (!(r.plain && r2.plain)) = true
      rw [Bool.eq_false_iff.2 h]
      rfl
  all_goals rfl

theorem wf_decodeIndex0 (cfg : Config) (x : Idx) (o a b : Byte) : (decodeIndex0 x o a b).1.wf cfg = true := by
  unfold decodeIndex0
  dsimp only
  repeat' split
  all_goals try rfl
  · exact Cond.isJr_ofSel_and_three _
  iterate 3 exact bne_iff_ne.2 ‹_›
  all_goals exact Reg8.plain_of_ne ‹_› ‹_›

theorem wf_decodeIndex2 (cfg : Config) (x : Idx) (o a : Byte) : (decodeIndex2 x o a).1.wf cfg = true := by
  unfold decodeIndex2 decodeIndexAluHalf
  repeat' split
  all_goals try rfl
  all_goals exact Reg8.plain_of_ne ‹_› ‹_›

theorem wf_decodeIndex3 (cfg : Config) (x : Idx) (o a b : Byte) : (decodeIndex3 x o a b).1.wf cfg = true := by
  unfold decodeIndex3
  dsimp only
  repeat' split
  all_goals try rfl
  all_goals exact bne_iff_ne.2 ‹_›

/-- The index table keeps the selectors that a prefix substitutes out of the forms it does not (R93, R97). -/
theorem wf_decodeIndex (cfg : Config) (x : Idx) (o a b : Byte) : (decodeIndex x o a b).1.wf cfg = true := by
  unfold decodeIndex
  split
  · exact wf_decodeIndex0 cfg x o a b
  · exact wf_decodeIndex1 cfg x o a
  · exact wf_decodeIndex2 cfg x o a
  · exact wf_decodeIndex3 cfg x o a b

theorem wf_decodeBit (cfg : Config) (o : Byte) : (decodeBit o).wf cfg = true := by
  unfold decodeBit
  dsimp only
  repeat' split
  all_goals rfl

theorem wf_decodeIndexBit (cfg : Config) (x : Idx) (d o : Byte) : (decodeIndexBit x d o).wf cfg = true := by
  unfold decodeIndexBit
  dsimp only
  repeat' split
  all_goals rfl

/-- A row of the gated subset is well formed exactly where its code is dispatched (R440). -/
theorem wf_of_decodeZ80n {e : Instr × Nat} (h : decodeZ80n o a b = some e) : e.1.wf cfg = cfg.extOn o := by
  unfold decodeZ80n at h
  dsimp only at h
  split at h
  all_goals cases h
  all_goals rfl

/-- A code that is no row of the gated subset is none of its codes. -/
theorem not_mem_z80nCodes_of_decodeZ80n (h : decodeZ80n o a b = none) : o ∉ z80nCodes := by
  unfold decodeZ80n at h
  dsimp only at h
  split at h
  rotate_right
  · simp_all [z80nCodes]
  all_goals cases h

theorem wf_extNoop (hg : o ∈ z80nCodes → cfg.extOn o = false) (hu : extUnassigned o = true) :
    (Instr.extNoop o).wf cfg = true := by
  show extHole cfg o = true
  by_cases hm : o ∈ z80nCodes
  · simp [extHole, hu, hg hm]
  · simp [extHole, hu, hm]

theorem wf_decodeExtendedBase (hg : o ∈ z80nCodes → cfg.extOn o = false) (a b : Byte) :
    (decodeExtendedBase o a b).1.wf cfg = true := by
  have hnoop := wf_extNoop hg
  clear hg
  unfold decodeExtendedBase decodeExtended1 decodeExtended2
  dsimp only
  repeat' split
  all_goals try rfl
  · exact bne_iff_ne.2 ‹_›
  all_goals exact hnoop (by clear hnoop; revert o; decide)

theorem wf_decodeExtended (cfg : Config) (o a b : Byte) : (decodeExtended cfg o a b).1.wf cfg = true := by
  unfold decodeExtended
  split
  · rename_i e he
    split
    · rename_i hon
      rw [wf_of_decodeZ80n he, hon]
    · rename_i hoff
      exact wf_decodeExtendedBase (fun _ => Bool.eq_false_iff.2 hoff) a b
  · rename_i he
    exact wf_decodeExtendedBase (fun hm => absurd hm (not_mem_z80nCodes_of_decodeZ80n he)) a b

/-- No byte is illegal in any decoder state (R99). -/
theorem wf_decodeCall (cfg : Config) (st : DecoderState) (o a b : Byte) :
    (decodeCall cfg st o a b).1.wf cfg = true := by
  cases st with
  | idle => exact wf_decodeBase cfg o a b
  | indexPending x => exact wf_decodeIndex cfg x o a b
  | bitPending => exact wf_decodeBit cfg o
  | extendedPending => exact wf_decodeExtended cfg o a b
  | indexBitPending x => exact wf_decodeIndexBit cfg x o a

/-! ### Prefix rows -/

theorem prefixState_indexPending_eq_none : prefixState (.indexPending x) o = none ↔ prefixState .idle o = none := by
  simp only [prefixState]
  split <;> simp

theorem isPrefixRow_decodeBase (h : prefixState .idle o = none) (a b : Byte) :
    (decodeBase o a b).1.isPrefixRow = false := by
  unfold decodeBase decodeBase0 decodeBase1 decodeBase2 decodeBase3
  dsimp only
  repeat' split
  all_goals try rfl
  all_goals exfalso; revert o; decide

theorem isPrefixRow_decodeIndex (h : prefixState (.indexPending x) o = none) (a b : Byte) :
    (decodeIndex x o a b).1.isPrefixRow = false := by
  rw [prefixState_indexPending_eq_none] at h
  unfold decodeIndex decodeIndex0 decodeIndex1 decodeIndex2 decodeIndexAluHalf decodeIndex3
  dsimp only
  repeat' split
  all_goals try rfl
  all_goals exfalso; revert o; decide

theorem isPrefixRow_decodeBit (o : Byte) : (decodeBit o).isPrefixRow = false := by
  unfold decodeBit
  dsimp only
  repeat' split
  all_goals rfl

theorem isPrefixRow_decodeIndexBit (x : Idx) (d o : Byte) : (decodeIndexBit x d o).isPrefixRow = false := by
  unfold decodeIndexBit
  dsimp only
  repeat' split
  all_goals rfl

theorem isPrefixRow_decodeExtendedBase (o a b : Byte) : (decodeExtendedBase o a b).1.isPrefixRow = false := by
  unfold decodeExtendedBase decodeExtended1 decodeExtended2
  dsimp only
  repeat' split
  all_goals rfl

theorem isPrefixRow_of_decodeZ80n {e : Instr × Nat} (h : decodeZ80n o a b = some e) : e.1.isPrefixRow = false := by
  unfold decodeZ80n at h
  dsimp only at h
  split at h
  all_goals cases h
  all_goals rfl

theorem isPrefixRow_decodeExtended (cfg : Config) (o a b : Byte) :
    (decodeExtended cfg o a b).1.isPrefixRow = false := by
  unfold decodeExtended
  split
  · rename_i e he
    split
    · exact isPrefixRow_of_decodeZ80n he
    · exact isPrefixRow_decodeExtendedBase o a b
  · exact isPrefixRow_decodeExtendedBase o a b

/-- A byte that is no prefix runs no prefix row (R102). -/
theorem isPrefixRow_of_prefixState (h : prefixState st o = none) (cfg : Config) (a b : Byte) :
    (decodeCall cfg st o a b).1.isPrefixRow = false := by
  cases st with
  | idle => exact isPrefixRow_decodeBase h a b
  | indexPending x => exact isPrefixRow_decodeIndex h a b
  | bitPending => exact isPrefixRow_decodeBit o
  | extendedPending => exact isPrefixRow_decodeExtended cfg o a b
  | indexBitPending x => exact isPrefixRow_decodeIndexBit x o a

/-- A call runs a prefix row exactly when its first byte is a prefix byte there (R102). -/
theorem isPrefixRow_decodeCall (cfg : Config) (st : DecoderState) (o a b : Byte) :
    (decodeCall cfg st o a b).1.isPrefixRow = (prefixState st o).isSome := by
  cases hp : prefixState st o with
  | none => exact isPrefixRow_of_prefixState hp cfg a b
  | some st' =>
    obtain ⟨i, hi, hr, -⟩ := decodeCall_of_prefixState hp cfg a b
    rw [hi]
    exact hr

/-! ### How many bytes a call fetches -/

theorem TableEntry.length_bounds {d : Byte → Byte → Instr × Nat} (h : TableEntry d) (a b : Byte) :
    1 ≤ (d a b).2 ∧ (d a b).2 ≤ 3 := by
  cases h <;> simp

/-- Settles O3: the tables' rows one by one, and their operand bytes by `TableEntry.of_decodeCall`. -/
theorem everyByteDecodesInEveryState : Obligations.EveryByteDecodesInEveryState := by
  intro cfg st b0 b1 b2 c1 c2
  have he := TableEntry.of_decodeCall cfg st b0
  obtain ⟨hpos, hle⟩ := he.length_bounds b1 b2
  exact ⟨wf_decodeCall cfg st b0 b1 b2, hpos, hle, isPrefixRow_decodeCall cfg st b0 b1 b2,
    fun hn => he.eq_of_one hn c1 c2, fun hn => he.eq_of_two hn c2⟩

end Sys2Proof
end

section
/-! One call that services no signal, as the run of the instruction it decodes (R64, R101 to R105). -/

namespace Sys2Proof.Machine

variable {s : State} {i : Instr} {n : Nat}

/-- With the default RAM the bytes that the next fetches return are those it holds from PC on (R66). -/
theorem State.byteAt_ram (hr : s.cfg.memDevice = .ram) (k : Nat) : s.byteAt k = s.read (s.pc + BitVec.ofNat 16 k) := by
  obtain ⟨bs, hbs, -⟩ := State.fetchBytes_eq k s
  rw [State.byteAt, hbs]
  exact (State.read_ram (by exact hr) _).trans (State.read_ram hr _).symm

/-- The bytes that a call looks at are those that the next fetches return. -/
theorem State.holds_take (s : State) (n : Nat) : s.holds ([s.byteAt 0, s.byteAt 1, s.byteAt 2].take n) := by
  intro k hk
  have hk3 : k < 3 := hk.trans_le (List.length_take_le' n _)
  rw [List.getElem_take]
  match k, hk3 with
  | 0, _ | 1, _ | 2, _ => rfl

/-- Where a prefix byte stands at PC, the call fetches it and nothing else (R102). -/
theorem State.fetched_of_prefix {st : DecoderState} (hp : s.prefixAhead = some st) : s.fetched = s.fetchOpcode := by
  have ha : s.prefixAhead.isSome = true := by rw [hp]; rfl
  cases hd : s.dec with
  | idle | indexPending => simp only [State.fetched, hd, ha, if_true]
  | bitPending | extendedPending | indexBitPending => simp [State.prefixAhead, hd, prefixState] at hp

/-- What the call fetches: the first `n` of the three bytes it looks at, each by one read (R64, R104, R107). -/
theorem State.fetched_of_nextCall (hn : s.nextCall = (i, n)) :
    s.fetched.pc = s.pc + BitVec.ofNat 16 n ∧
    s.fetched.deviceCalls = fetchReads s.pc ([s.byteAt 0, s.byteAt 1, s.byteAt 2].take n) s.deviceCalls := by
  cases hp : s.prefixAhead with
  | some st =>
    obtain ⟨j, hj, -⟩ := decodeCall_of_prefixState hp s.cfg (s.byteAt 1) (s.byteAt 2)
    cases hn.symm.trans hj
    rw [State.fetched_of_prefix hp, State.fetchOpcode_eq, ← s.byteAt_zero]
    exact ⟨rfl, rfl⟩
  | none =>
    have hb := (TableEntry.of_decodeCall s.cfg s.dec (s.byteAt 0)).length_bounds (s.byteAt 1) (s.byteAt 2)
    have hn2 : s.nextCall.2 = n := congrArg Prod.snd hn
    obtain ⟨hpos, hle⟩ : 1 ≤ n ∧ n ≤ 3 := hn2 ▸ hb
    have hl : ([s.byteAt 0, s.byteAt 1, s.byteAt 2].take n).length = n := by simpa using hle
    obtain ⟨m, rfl⟩ := Nat.exists_eq_add_of_le' hpos
    rw [State.fetched_of_terminal (s.holds_take (m + 1)) hp (hn2.trans hl.symm)]
    exact ⟨congrArg (fun k => s.pc + BitVec.ofNat 16 k) hl, rfl⟩

/-- Settles O8: the fetches, the meaning, and the end of the call, which is at a boundary unless the row is a prefix. -/
theorem stepRunsTheDecodedInstruction : Obligations.StepRunsTheDecodedInstruction := by
  intro s i n hs hdec
  have hi : s.currentInstr = i := congrArg Prod.fst hdec
  have hrow : s.prefixAhead.isSome = i.isPrefixRow := by
    rw [← hi]
    exact (isPrefixRow_decodeCall s.cfg s.dec (s.byteAt 0) (s.byteAt 1) (s.byteAt 2)).symm
  obtain ⟨hpc, hcalls⟩ := State.fetched_of_nextCall hdec
  obtain ⟨t, ht, -⟩ := exec_acts i s.fetched
  refine ⟨State.byteAt_ram, hpc, hcalls, t, ht, ?_⟩
  simp only [step, hs, hi, ht, State.endCall, hrow, State.boundary]

end Sys2Proof.Machine
end

section
/-! Whole instructions as calls, and the prefix bytes that hold off signals (R101 to R107, R483, R542). -/

namespace Sys2Proof.Machine

/-- Settles O9: the calls of a whole instruction, from an Idle state with an empty byte buffer. -/
theorem callsRunTheWholeInstruction : Obligations.CallsRunTheWholeInstruction := by
  intro s bs i hd hb hs hdec hrow hh
  obtain ⟨-, t, ht, hc⟩ := State.calls_whole hs (absurd hd) (hd ▸ decodeRow_of_decodeBytes hdec) hrow hh
  rw [State.fetchedFrom_idle hd hb] at ht
  rw [hd] at hc
  exact ⟨t, ht, hc⟩

/-- A call that services no signal runs what it fetched (R101). -/
theorem step_of_no_service {s : State} (hs : s.pendingService = none) :
    ∃ t, exec s.currentInstr s.fetched = .next t ∧ step s = .next (s.endCall t) := by
  obtain ⟨t, ht, -⟩ := exec_acts s.currentInstr s.fetched
  exact ⟨t, ht, by simp only [step, hs, ht]⟩

/-- Settles O54: no signal is examined in the middle of an instruction, a prefix row only enters its decoder state, and
an index prefix after an index prefix is one prefix call. -/
theorem prefixBytesHoldOffSignals : Obligations.PrefixBytesHoldOffSignals := by
  refine ⟨fun s hd => ?_, fun s x => ⟨fun e he => ?_, fun y hd hb => ?_⟩⟩
  · have hs := State.pendingService_of_ne_idle hd
    exact ⟨hs, step_of_no_service hs⟩
  · simp only [List.mem_cons, List.not_mem_nil, or_false] at he
    obtain rfl | rfl | rfl | rfl | rfl | rfl | rfl | rfl := he <;> rfl
  · have hne : s.dec ≠ .idle := by rw [hd]; exact DecoderState.noConfusion
    have hp : prefixState s.dec (s.byteAt 0) = some (.indexPending y) := by
      rw [hd, s.byteAt_zero, hb]
      cases y <;> rfl
    refine ⟨_, step_of_prefix (State.pendingService_of_ne_idle hne) hp, ?_⟩
    rw [State.prefixCall, State.fetchOpcode_eq, if_neg hne]
    exact ⟨toNat_refreshNext s.r, rfl⟩

end Sys2Proof.Machine
end

section
/-! CPU control, jumps and register loads (R180, R181, R295 to R302, R380 to R385). -/

namespace Sys2Proof.Machine

variable {o : Out} {s : State} {x : Idx} {r : Reg8} {v d : Byte} {nn : Word} {n : Nat}

/-! ### CPU control -/

/-- Settles O34: each form is one write of its control register, and its whole cost is its opcode fetches. -/
theorem cpuControlInstructions : Obligations.CpuControlInstructions := by
  intro s x op
  simp only [List.forall_mem_cons, List.not_mem_nil, false_imp_iff, implies_true, and_true]
  exact ⟨⟨rfl, rfl, rfl⟩, ⟨rfl, rfl⟩, ⟨rfl, rfl⟩, ⟨rfl, rfl, rfl, rfl⟩, ⟨rfl, rfl⟩, ⟨rfl, rfl⟩, rfl, rfl⟩

/-! ### Jumps -/

/-- JP cc, plain or after DD or FD: WZ is written either way (R381). -/
theorem exec_jpCc_forms {k : Cond} {i : Instr} (hi : i = .jpCc k nn ∨ i = .jpCcX x k nn) :
    exec i s = .next { s with pc := if s.cond k then nn else s.pc, wz := nn, ticks := s.ticks + 6 } := by
  have hj : s.jumpIf (s.cond k) nn = { s with pc := if s.cond k then nn else s.pc, wz := nn } := by
    unfold State.jumpIf
    split <;> rfl
  obtain rfl | rfl := hi <;> exact congrArg (fun t : State => Host.Outcome.next (t.tick 6)) hj

/-- JR cc, plain or after DD or FD (R383). -/
theorem exec_jrCc_forms {k : Cond} {i : Instr} (hi : i = .jrCc k d ∨ i = .jrCcX x k d) :
    exec i s = .next (if s.cond k
      then { s with pc := s.pc + d.signExtend 16, wz := s.pc + d.signExtend 16, ticks := s.ticks + 8 }
      else { s with ticks := s.ticks + 3 }) := by
  obtain rfl | rfl := hi <;> rfl

/-- DJNZ, plain or after DD or FD: the jump is taken unless B counts down to 0 (R385). -/
theorem exec_djnz_forms {i : Instr} (hi : i = .djnz d ∨ i = .djnzX x d) :
    exec i s = .next (if s.b - 1 != 0 then ((s.setR8 .b (s.b - 1)).jump (s.pc + d.signExtend 16)).tick 9
      else (s.setR8 .b (s.b - 1)).tick 4) := by
  obtain rfl | rfl := hi <;> rfl

/-- The conditions, named by the flags they test (R95). -/
theorem State.cond_of_mem {c : Cond × Bool}
    (hc : c ∈ [(Cond.nz, !fZ s.f), (.z, fZ s.f), (.nc, !fC s.f), (.c, fC s.f), (.po, !fPV s.f), (.pe, fPV s.f),
      (.p, !fS s.f), (.m, fS s.f)]) : c.2 = s.cond c.1 := by
  simp only [List.mem_cons, List.not_mem_nil, or_false] at hc
  obtain rfl | rfl | rfl | rfl | rfl | rfl | rfl | rfl := hc <;> rfl

/-- Settles O43: the unconditional jumps write PC and WZ, and the others by their condition. -/
theorem jumpsSetTheProgramCounter : Obligations.JumpsSetTheProgramCounter := by
  intro s x nn d
  refine ⟨fun e he => ?_, fun e he => ?_, rfl, rfl, fun c hc => ?_, fun i hi => ?_⟩
  · simp only [List.mem_cons, List.not_mem_nil, or_false] at he
    obtain rfl | rfl := he <;> rfl
  · simp only [List.mem_cons, List.not_mem_nil, or_false] at he
    obtain rfl | rfl := he <;> rfl
  · rw [State.cond_of_mem hc]
    simp only [List.mem_cons, List.not_mem_nil, or_false]
    exact ⟨fun i hi => exec_jpCc_forms hi, fun i hi => exec_jrCc_forms hi⟩
  · simp only [List.mem_cons, List.not_mem_nil, or_false] at hi
    rw [exec_djnz_forms hi]
    by_cases hb : s.b = 1
    · have hz : (s.b - 1 != 0) = false := by rw [hb]; rfl
      rw [hz, if_neg Bool.false_ne_true]
      exact ⟨_, rfl, hiByte_setHiByte .., loByte_setHiByte .., (if_pos hb).symm⟩
    · have hz : (s.b - 1 != 0) = true := bne_iff_ne.2 (by bv_omega)
      rw [hz, if_pos rfl]
      exact ⟨_, rfl, hiByte_setHiByte .., loByte_setHiByte .., (if_neg hb).symm⟩

/-! ### Register loads -/

/-- An outcome that writes `v` into a register and takes `n` ticks (R180, R181). -/
theorem State.loads_r8_of_setR8 (ho : o = .next ((s.setR8 r v).tick n)) :
    ∃ t, o = .next t ∧ (∀ q, t.r8 q = if q = r then v else s.r8 q) ∧ t.f = s.f ∧
      t = { s with af := t.af, bc := t.bc, de := t.de, hl := t.hl, ticks := s.ticks + n } :=
  ⟨_, ho, fun q => s.r8_setR8 r q v, s.f_setR8 r v, congrArg (State.tick · n) (s.setR8_frame r v)⟩

theorem State.half_setHalf (s : State) (x : Idx) (h k : Half) (v : Byte) :
    (s.setHalf x h v).half x k = if k = h then v else s.half x k := by
  cases h <;> cases k <;> simp [State.setHalf, State.half, State.idx_setIdx]

/-- Writing a half leaves the other index register. -/
theorem State.idx_setHalf {y : Idx} (hy : y ≠ x) (s : State) (h : Half) (v : Byte) :
    (s.setHalf x h v).idx y = s.idx y := by
  cases h <;> exact (s.idx_setIdx x y _).trans (if_neg hy)

/-- Writing XH or XL changes IX and IY only. -/
theorem State.setHalf_frame (s : State) (x : Idx) (h : Half) (v : Byte) :
    s.setHalf x h v = { s with ix := (s.setHalf x h v).ix, iy := (s.setHalf x h v).iy } := by
  cases h <;> exact s.setIdx_frame x _

theorem State.f_setHalf (s : State) (x : Idx) (h : Half) (v : Byte) : (s.setHalf x h v).f = s.f := by
  rw [State.setHalf_frame]
  rfl

theorem State.f_setR8X (s : State) (x : Idx) (r : Reg8) (v : Byte) : (s.setR8X x r v).f = s.f := by
  cases r with
  | h => exact s.f_setHalf x .high v
  | l => exact s.f_setHalf x .low v
  | _ => exact s.f_setR8 _ v

/-- Where the prefix substitutes, the other index register keeps. -/
theorem State.idx_setR8X {y : Idx} (hy : y ≠ x) (s : State) (r : Reg8) (v : Byte) :
    (s.setR8X x r v).idx y = s.idx y := by
  cases r with
  | h => exact State.idx_setHalf hy s .high v
  | l => exact State.idx_setHalf hy s .low v
  | _ => cases y <;> rfl

/-- Where the prefix substitutes, HL is not reached (R93). -/
theorem State.setR8X_frame (s : State) (x : Idx) (r : Reg8) (v : Byte) :
    s.setR8X x r v = { s with
      af := (s.setR8X x r v).af, bc := (s.setR8X x r v).bc, de := (s.setR8X x r v).de
      ix := (s.setR8X x r v).ix, iy := (s.setR8X x r v).iy } := by
  cases r with
  | h => cases x <;> rfl
  | l => cases x <;> rfl
  | _ => rfl

/-- Settles O14: each form writes one register, or one half of an index register. -/
theorem registerLoadsWriteOneRegister : Obligations.RegisterLoadsWriteOneRegister := by
  intro s x r r2 h n
  refine ⟨fun i hi => ?_,
    ⟨_, rfl, fun q => s.r8X_setR8X x r q _, s.f_setR8X x r _, fun y hy => State.idx_setR8X hy s r _,
      s.setR8X_frame x r _⟩,
    fun i hi => ?_,
    ⟨_, rfl, fun k => s.half_setHalf x h k n, fun y hy => State.idx_setHalf hy s h n,
      congrArg (State.tick · 3) (s.setHalf_frame x h n)⟩⟩
  · simp only [List.mem_cons, List.not_mem_nil, or_false] at hi
    obtain rfl | rfl := hi <;> exact State.loads_r8_of_setR8 (n := 0) rfl
  · simp only [List.mem_cons, List.not_mem_nil, or_false] at hi
    obtain rfl | rfl := hi <;> exact State.loads_r8_of_setR8 rfl

end Sys2Proof.Machine
end

section
/-! What bytes decode to spells them: the rows of the five tables, and the prefix bytes before a row. -/

namespace Sys2Proof

variable {cfg : Config} {st st' : DecoderState} {i : Instr} {o a b : Byte} {bs : List Byte}

/-! ### The cells of a table -/

theorem cases_bitVec2 {P : BitVec 2 → Prop} (h0 : P 0) (h1 : P 1) (h2 : P 2) (h3 : P 3) (p : BitVec 2) : P p := by
  have hp : p = 0 ∨ p = 1 ∨ p = 2 ∨ p = 3 := by revert p; decide
  obtain rfl | rfl | rfl | rfl := hp <;> assumption

theorem cases_bitVec3 {P : BitVec 3 → Prop} (h0 : P 0) (h1 : P 1) (h2 : P 2) (h3 : P 3) (h4 : P 4) (h5 : P 5)
    (h6 : P 6) (h7 : P 7) (y : BitVec 3) : P y := by
  have hy : y = 0 ∨ y = 1 ∨ y = 2 ∨ y = 3 ∨ y = 4 ∨ y = 5 ∨ y = 6 ∨ y = 7 := by revert y; decide
  obtain rfl | rfl | rfl | rfl | rfl | rfl | rfl | rfl := hy <;> assumption

/-- Every byte is an opcode of some fields. -/
theorem cases_opcode {P : Byte → Prop} (fields : ∀ x y z, P (opc x y z)) (o : Byte) : P o :=
  opc_fields o ▸ fields _ _ _

/-! ### The rows -/

/-- The bytes that lead from Idle to a decoder state (R100, R102). -/
def DecoderState.path : DecoderState → List Byte
  | .idle => []
  | .indexPending x => [x.prefixByte]
  | .bitPending => [0xCB]
  | .extendedPending => [0xED]
  | .indexBitPending x => [x.prefixByte, 0xCB]

/-- The row `d` is spelled by the bytes `pre` before it and those it fetches among `o`, `a` and `b`. -/
def SpelledBy (pre : List Byte) (o a b : Byte) (d : Instr × Nat) : Prop := encode d.1 = pre ++ [o, a, b].take d.2

/-- A row whose operand is a word, low byte first (R107). -/
theorem spelledBy_of_word {pre : List Byte} {f : Word → Instr}
    (h : ∀ w, encode (f w) = pre ++ [o, loByte w, hiByte w]) : SpelledBy pre o a b (f (joinBytes b a), 3) := by
  rw [SpelledBy, h, loByte_joinBytes, hiByte_joinBytes]
  rfl

/-- Two operand bytes are the halves of a word, so a table may be read with a word there: its cells then evaluate. -/
theorem spelledBy_of_split_word {pre : List Byte} {d : Byte → Byte → Instr × Nat}
    (h : ∀ w, SpelledBy pre o (loByte w) (hiByte w) (d (loByte w) (hiByte w))) (a b : Byte) :
    SpelledBy pre o a b (d a b) := by
  simpa using h (joinBytes b a)

/-- The base table (R108), cell by cell. -/
theorem spelledBy_decodeBase (o a b : Byte) : SpelledBy [] o a b (decodeBase o a b) := by
  refine spelledBy_of_split_word (d := decodeBase o) (fun w => ?_) a b
  simp only [decodeBase, decodeBase0, decodeBase3, joinBytes_hi_lo]
  cases o using cases_opcode with | fields p y z
  cases p using cases_bitVec2 <;> cases y using cases_bitVec3 <;> cases z using cases_bitVec3 <;> rfl

/-- The index table (R97), cell by cell. -/
theorem spelledBy_decodeIndex (x : Idx) (o a b : Byte) : SpelledBy [x.prefixByte] o a b (decodeIndex x o a b) := by
  refine spelledBy_of_split_word (d := decodeIndex x o) (fun w => ?_) a b
  simp only [decodeIndex, decodeIndex0, decodeIndex3, joinBytes_hi_lo]
  cases o using cases_opcode with | fields p y z
  cases p using cases_bitVec2 <;> cases y using cases_bitVec3 <;> cases z using cases_bitVec3 <;> rfl

/-- The bit table (R109): BIT, RES and SET keep their bit number, so only the rotates need its value. -/
theorem spelledBy_decodeBit (o a b : Byte) : SpelledBy [0xCB] o a b (decodeBit o, 1) := by
  cases o using cases_opcode with | fields p y z
  simp only [decodeBit, fieldX_opc, fieldY_opc, fieldZ_opc]
  cases p using cases_bitVec2
  case h0 => cases y using cases_bitVec3 <;> cases z using cases_bitVec3 <;> rfl
  all_goals cases z using cases_bitVec3 <;> rfl

theorem spelledBy_decodeIndexBit (x : Idx) (d o b : Byte) :
    SpelledBy [x.prefixByte, 0xCB] d o b (decodeIndexBit x d o, 2) := by
  cases o using cases_opcode with | fields p y z
  simp only [decodeIndexBit, fieldX_opc, fieldY_opc, fieldZ_opc]
  cases p using cases_bitVec2
  case h0 => cases y using cases_bitVec3 <;> cases z using cases_bitVec3 <;> rfl
  all_goals cases z using cases_bitVec3 <;> rfl

theorem spelledBy_decodeExtendedBase (o a b : Byte) : SpelledBy [0xED] o a b (decodeExtendedBase o a b) := by
  refine spelledBy_of_split_word (d := decodeExtendedBase o) (fun w => ?_) a b
  simp only [decodeExtendedBase, decodeExtended1, joinBytes_hi_lo]
  cases o using cases_opcode with | fields p y z
  cases p using cases_bitVec2 <;> cases y using cases_bitVec3 <;> cases z using cases_bitVec3 <;> rfl

theorem spelledBy_of_decodeZ80n {d : Instr × Nat} (h : decodeZ80n o a b = some d) : SpelledBy [0xED] o a b d := by
  unfold decodeZ80n at h
  dsimp only at h
  split at h
  all_goals cases h
  all_goals try rfl
  iterate 3 exact spelledBy_of_word fun _ => rfl
  exact congrArg₂ (fun hi lo => [0xED, 0x8A, hi, lo]) (hiByte_joinBytes a b) (loByte_joinBytes a b)

theorem spelledBy_decodeExtended (cfg : Config) (o a b : Byte) :
    SpelledBy [0xED] o a b (decodeExtended cfg o a b) := by
  unfold decodeExtended
  split
  · split
    · exact spelledBy_of_decodeZ80n ‹_›
    · exact spelledBy_decodeExtendedBase o a b
  · exact spelledBy_decodeExtendedBase o a b

/-- What a call runs is spelled by the bytes that lead to the decoder's state and the bytes that the call fetches. -/
theorem spelledBy_decodeCall (cfg : Config) (st : DecoderState) (o a b : Byte) :
    SpelledBy st.path o a b (decodeCall cfg st o a b) := by
  cases st with
  | idle => exact spelledBy_decodeBase o a b
  | indexPending x => exact spelledBy_decodeIndex x o a b
  | bitPending => exact spelledBy_decodeBit o a b
  | extendedPending => exact spelledBy_decodeExtended cfg o a b
  | indexBitPending x => exact spelledBy_decodeIndexBit x o a b

/-- The same where the row fetches all of a list. -/
theorem encode_of_decodeCall (h : decodeCall cfg st o (bs.getD 0 0) (bs.getD 1 0) = (i, (o :: bs).length)) :
    encode i = st.path ++ o :: bs := by
  have hs := spelledBy_decodeCall cfg st o (bs.getD 0 0) (bs.getD 1 0)
  obtain ⟨-, hle⟩ := (TableEntry.of_decodeCall cfg st o).length_bounds (bs.getD 0 0) (bs.getD 1 0)
  rw [h] at hs hle
  rw [SpelledBy] at hs
  rw [hs]
  match bs, hle with
  | [], _ | [c], _ | [c, d], _ => rfl

/-! ### The prefix bytes -/

/-- A prefix byte goes on along the path, or replaces or cancels the index prefix before it (R102). -/
theorem path_of_prefixState (h : prefixState st o = some st') :
    ∃ ps, st.path ++ [o] = ps ++ st'.path ∧ ∀ c ∈ ps, c = 0xDD ∨ c = 0xFD := by
  cases st with
  | idle =>
    simp only [prefixState] at h
    split at h <;> cases h <;> exact ⟨[], rfl, by simp⟩
  | indexPending x =>
    have hx : ∀ c ∈ [x.prefixByte], c = 0xDD ∨ c = 0xFD := by cases x <;> simp [Idx.prefixByte]
    simp only [prefixState] at h
    split at h <;> cases h
    iterate 3 exact ⟨[x.prefixByte], rfl, hx⟩
    exact ⟨[], rfl, by simp⟩
  | bitPending | extendedPending | indexBitPending => cases h

/-- A row is a call's, whose bytes are all of the list, or goes on after a prefix byte. -/
theorem decodeRow_cons_cases (h : decodeRow cfg st (o :: bs) = some (i, (o :: bs).length)) :
    decodeCall cfg st o (bs.getD 0 0) (bs.getD 1 0) = (i, (o :: bs).length) ∨
    ∃ st', prefixState st o = some st' ∧ decodeRow cfg st' bs = some (i, bs.length) := by
  cases hp : prefixState st o with
  | none =>
    simp only [decodeRow, hp] at h
    exact .inl (Option.some.inj h)
  | some st' =>
    cases bs with
    | nil =>
      simp only [decodeRow, hp] at h
      exact .inl (Option.some.inj h)
    | cons c cs =>
      rw [decodeRow, hp] at h
      obtain ⟨⟨j, m⟩, hd, hd'⟩ := Option.map_eq_some_iff.1 h
      obtain ⟨rfl, hm⟩ := Prod.mk.inj hd'
      exact .inr ⟨st', rfl, hd.trans (congrArg (fun k => some (j, k)) (Nat.succ.inj hm))⟩

/-- What the bytes from a decoder state on spell is encoded by the path to that state and those bytes, but for index
prefixes. -/
theorem encode_suffix_of_decodeRow (h : decodeRow cfg st bs = some (i, bs.length)) :
    i.wf cfg = true ∧ ∃ ps, st.path ++ bs = ps ++ encode i ∧ ∀ c ∈ ps, c = 0xDD ∨ c = 0xFD := by
  induction bs generalizing st with
  | nil => cases h
  | cons o bs ih =>
    obtain hc | ⟨st', hp, hr⟩ := decodeRow_cons_cases h
    · have hw := wf_decodeCall cfg st o (bs.getD 0 0) (bs.getD 1 0)
      rw [hc] at hw
      exact ⟨hw, [], (encode_of_decodeCall hc).symm, by simp⟩
    · obtain ⟨hw, ps, hps, hall⟩ := ih hr
      obtain ⟨qs, hqs, hall'⟩ := path_of_prefixState hp
      refine ⟨hw, qs ++ ps, ?_, List.forall_mem_append.2 ⟨hall', hall⟩⟩
      calc st.path ++ o :: bs = qs ++ (st'.path ++ bs) := by
            rw [← List.append_assoc, ← hqs, List.append_assoc, List.singleton_append]
        _ = qs ++ ps ++ encode i := by rw [hps, List.append_assoc]

/-- Settles O2: from Idle, whose path is empty. -/
theorem decodedBytesEndInTheEncoding : Obligations.DecodedBytesEndInTheEncoding :=
  fun _ _ _ h => encode_suffix_of_decodeRow (Machine.decodeRow_of_decodeBytes h)

end Sys2Proof
end

section
/-! Decoding an encoding: the prefix bytes lead to the decoder's state, and there the opcode spells its row. -/

namespace Sys2Proof

open Machine

variable {cfg : Config} {st st' : DecoderState} {i : Instr} {o a b op : Byte} {bs : List Byte}

/-! ### Reaching a row -/

theorem decodeBytes_of_decodeRow (h : decodeRow cfg .idle bs = some (i, bs.length)) : decodeBytes cfg bs = .ok i := by
  simp [decodeBytes, h]

/-- A prefix byte leads to the row that the bytes after it spell. -/
theorem decodeRow_cons_of_prefixState (hp : prefixState st o = some st')
    (h : decodeRow cfg st' bs = some (i, bs.length)) : decodeRow cfg st (o :: bs) = some (i, (o :: bs).length) := by
  cases bs with
  | nil => cases h
  | cons c cs =>
    rw [decodeRow, hp]
    exact congrArg (Option.map _) h

/-- The path to a decoder state leads to the row that the bytes after it spell. -/
theorem decodeRow_path_append (st : DecoderState) (h : decodeRow cfg st bs = some (i, bs.length)) :
    decodeRow cfg .idle (st.path ++ bs) = some (i, (st.path ++ bs).length) := by
  cases st with
  | idle => exact h
  | indexPending x => exact decodeRow_cons_of_prefixState (prefixState_idle x) h
  | bitPending | extendedPending => exact decodeRow_cons_of_prefixState rfl h
  | indexBitPending x =>
    exact decodeRow_cons_of_prefixState (prefixState_idle x) (decodeRow_cons_of_prefixState rfl h)

/-- A row of the table of `st` decodes from its path, its opcode and its operand bytes. -/
theorem decodeBytes_path_append (st : DecoderState) (hrow : i.isPrefixRow = false)
    (h : decodeCall cfg st o (bs.getD 0 0) (bs.getD 1 0) = (i, (o :: bs).length)) :
    decodeBytes cfg (st.path ++ o :: bs) = .ok i := by
  have hp : (prefixState st o).isSome = false := by
    rw [← isPrefixRow_decodeCall cfg st o (bs.getD 0 0) (bs.getD 1 0), h, hrow]
  refine decodeBytes_of_decodeRow (decodeRow_path_append st ?_)
  rw [decodeRow, Option.not_isSome_iff_eq_none.1 (Bool.eq_false_iff.1 hp)]
  exact congrArg some h

/-- The same where the operand is a word, low byte first (R107). -/
theorem decodeBytes_path_word (st : DecoderState) {f : Word → Instr} (w : Word) (hrow : (f w).isPrefixRow = false)
    (h : decodeCall cfg st o (loByte w) (hiByte w) = (f (joinBytes (hiByte w) (loByte w)), 3)) :
    decodeBytes cfg (st.path ++ [o, loByte w, hiByte w]) = .ok (f w) := by
  rw [joinBytes_hi_lo] at h
  exact decodeBytes_path_append st hrow h

/-! ### Rows that depend on the operands' values or on the configuration -/

/-- Selector 6 is never a register (R93). -/
theorem Reg8.ofSel_six : Reg8.ofSel 6#3 = none := rfl

/-- LD r,r' after an index prefix (R97). -/
theorem decodeIndex_ld (x : Idx) (r r2 : Reg8) (a b : Byte) : decodeIndex x (opc 1 r.sel r2.sel) a b =
    if r.plain && r2.plain then (.ldRRX x r r2, 1) else (.ldRRXH x r r2, 1) := by
  cases r <;> cases r2 <;> rfl

theorem decodeExtended_of_extOn {d : Instr × Nat} (hz : decodeZ80n o a b = some d) (hon : cfg.extOn o = true) :
    decodeExtended cfg o a b = d := by
  rw [decodeExtended, hz]
  exact if_pos hon

/-- The extended no-ops (R98, R440). -/
theorem decodeExtended_of_extHole (h : extHole cfg op = true) : decodeExtended cfg op 0 0 = (.extNoop op, 1) := by
  obtain ⟨hu, hg⟩ := Bool.and_eq_true_iff.1 h
  refine decodeExtended_missing (decodeExtendedBase_missing ?_) fun hm => ?_
  · clear h hg
    revert op
    decide
  · simpa [Config.extOn, hm] using hg

/-! ### The encodings -/

/-- Settles O1, table by table: a selector or an opcode field is one of its values, a word operand is its two bytes, and
the restrictions of `Instr.wf` leave out the terms that are no row. -/
theorem decodeOfEncodeIsIdentity : Obligations.DecodeOfEncodeIsIdentity := by
  intro cfg i hwf
  cases i
  -- the rows that consume a prefix byte
  case prefixCB | prefixDD | prefixED | prefixFD => rfl
  case prefixCBX x => cases x <;> rfl
  case prefixAfterX x px => cases x <;> cases px <;> rfl
  -- the base table
  case ldABc | ldADe | ldBcA | ldDeA | ldSpHl | exDeHl | exAf | exx | exSpHl | incMHl | decMHl | daa | cpl | ccf | scf
      | nop | halt | di | ei | rlca | rla | rrca | rra | jpHl | ret | addMHl | adcMHl | subMHl | sbcMHl | andMHl | xorMHl
      | orMHl | cpMHl | jr | djnz | ldMHlN | inAN | outNA | addN | adcN | subN | sbcN | andN | xorN | orN | cpN =>
    exact decodeBytes_path_append .idle rfl rfl
  case ldAMem nn | ldMemA nn | ldHlMem nn | ldMemHl nn | jp nn | call nn => exact decodeBytes_path_word .idle nn rfl rfl
  case ldMHlR r | addR r | adcR r | subR r | sbcR r | andR r | xorR r | orR r | cpR r | ldRMHl r | incR r | decR r
      | ldRN r _ => cases r <;> exact decodeBytes_path_append .idle rfl rfl
  case ldRR r r2 => cases r <;> cases r2 <;> exact decodeBytes_path_append .idle rfl rfl
  case addHlRp p | incRp p | decRp p => cases p <;> exact decodeBytes_path_append .idle rfl rfl
  case ldRpNn p nn => cases p <;> exact decodeBytes_path_word .idle nn rfl rfl
  case pushQ q | popQ q => cases q <;> exact decodeBytes_path_append .idle rfl rfl
  case retCc k => cases k <;> exact decodeBytes_path_append .idle rfl rfl
  case jpCc k nn | callCc k nn => cases k <;> exact decodeBytes_path_word .idle nn rfl rfl
  case jrCc k e =>
    cases k
    case po | pe | p | m => cases hwf
    all_goals exact decodeBytes_path_append .idle rfl rfl
  case rst t => cases t using cases_bitVec3 <;> exact decodeBytes_path_append .idle rfl rfl
  -- the index table
  case ldABcX x | ldADeX x | ldBcAX x | ldDeAX x | ldSpX x | pushX x | popX x | exDeHlX x | exAfX x | exxX x | exSpX x
      | daaX x | cplX x | ccfX x | scfX x | nopX x | haltX x | diX x | eiX x | incX x | decX x | rlcaX x | rlaX x | rrcaX x
      | rraX x | jpIdx x | retX x | incMXd x _ | decMXd x _ | ldMXdN x _ _ | jrX x _ | djnzX x _ | inANX x _ | outNAX x _
      | addMXd x _ | adcMXd x _ | subMXd x _ | sbcMXd x _ | andMXd x _ | xorMXd x _ | orMXd x _ | cpMXd x _ | addNX x _
      | adcNX x _ | subNX x _ | sbcNX x _ | andNX x _ | xorNX x _ | orNX x _ | cpNX x _ =>
    exact decodeBytes_path_append (.indexPending x) rfl rfl
  case ldAMemX x nn | ldMemAX x nn | ldXNn x nn | ldXMem x nn | ldMemX x nn | jpX x nn | callX x nn =>
    exact decodeBytes_path_word (.indexPending x) nn rfl rfl
  case addXH x h | adcXH x h | subXH x h | sbcXH x h | andXH x h | xorXH x h | orXH x h | cpXH x h | incXH x h | decXH x h
      | ldXHN x h _ => cases h <;> exact decodeBytes_path_append (.indexPending x) rfl rfl
  case addRX x r | adcRX x r | subRX x r | sbcRX x r | andRX x r | xorRX x r | orRX x r | cpRX x r | incRX x r | decRX x r
      | ldRNX x r _ =>
    cases r
    case h | l => cases hwf
    all_goals exact decodeBytes_path_append (.indexPending x) rfl rfl
  case ldMXdR x r _ | ldRMXd x r _ => cases r <;> exact decodeBytes_path_append (.indexPending x) rfl rfl
  case ldRRX x r r2 =>
    exact decodeBytes_path_append (.indexPending x) rfl ((decodeIndex_ld x r r2 0 0).trans (if_pos hwf))
  case ldRRXH x r r2 =>
    have hn : ¬ (r.plain && r2.plain) = true := Bool.eq_false_iff.1 ((Bool.not_eq_true' _).mp hwf)
    exact decodeBytes_path_append (.indexPending x) rfl ((decodeIndex_ld x r r2 0 0).trans (if_neg hn))
  case addXRp x p => cases p <;> exact decodeBytes_path_append (.indexPending x) rfl rfl
  case incRpX x p | decRpX x p =>
    cases p
    case hl => cases hwf
    all_goals exact decodeBytes_path_append (.indexPending x) rfl rfl
  case ldRpNnX x p nn =>
    cases p
    case hl => cases hwf
    all_goals exact decodeBytes_path_word (.indexPending x) nn rfl rfl
  case pushQX x q | popQX x q =>
    cases q
    case hl => cases hwf
    all_goals exact decodeBytes_path_append (.indexPending x) rfl rfl
  case retCcX x k => cases k <;> exact decodeBytes_path_append (.indexPending x) rfl rfl
  case jpCcX x k nn | callCcX x k nn => cases k <;> exact decodeBytes_path_word (.indexPending x) nn rfl rfl
  case jrCcX x k _ =>
    cases k
    case po | pe | p | m => cases hwf
    all_goals exact decodeBytes_path_append (.indexPending x) rfl rfl
  case rstX x t => cases t using cases_bitVec3 <;> exact decodeBytes_path_append (.indexPending x) rfl rfl
  -- the bit table
  case rlcMHl | rrcMHl | rlMHl | rrMHl | slaMHl | sraMHl | sllMHl | srlMHl =>
    exact decodeBytes_path_append .bitPending rfl rfl
  case rlcR r | rrcR r | rlR r | rrR r | slaR r | sraR r | sllR r | srlR r =>
    cases r <;> exact decodeBytes_path_append .bitPending rfl rfl
  case bitMHl | setMHl | resMHl | bitR | setR | resR =>
    exact decodeBytes_path_append .bitPending rfl (by simp [decodeCall, decodeBit, Reg8.ofSel_six])
  -- the index+bit table
  case rlcMXd x d | rrcMXd x d | rlMXd x d | rrMXd x d | slaMXd x d | sraMXd x d | sllMXd x d | srlMXd x d =>
    exact decodeBytes_path_append (.indexBitPending x) rfl rfl
  case rlcMXdR x d r | rrcMXdR x d r | rlMXdR x d r | rrMXdR x d r | slaMXdR x d r | sraMXdR x d r | sllMXdR x d r
      | srlMXdR x d r => cases r <;> exact decodeBytes_path_append (.indexBitPending x) rfl rfl
  case setMXd x _ _ | resMXd x _ _ | bitMXd x _ _ _ | setMXdR x _ _ _ | resMXdR x _ _ _ =>
    exact decodeBytes_path_append (.indexBitPending x) rfl (by simp [decodeCall, decodeIndexBit, Reg8.ofSel_six])
  -- the extended table
  case ldAI | ldAR | ldIA | ldRA | ldi | ldir | ldd | lddr | cpi | cpir | cpd | cpdr | rld | rrd | reti | inFC | ini | inir
      | ind | indr | outC0 | outi | otir | outd | otdr => exact decodeBytes_path_append .extendedPending rfl rfl
  case inRC r | outCR r => cases r <;> exact decodeBytes_path_append .extendedPending rfl rfl
  case adcHlRp p | sbcHlRp p => cases p <;> exact decodeBytes_path_append .extendedPending rfl rfl
  case ldRpMem p nn | ldMemRp p nn => cases p <;> exact decodeBytes_path_word .extendedPending nn rfl rfl
  case neg y | im y => cases y using cases_bitVec3 <;> exact decodeBytes_path_append .extendedPending rfl rfl
  case retn y =>
    cases y using cases_bitVec3
    case h1 => cases hwf
    all_goals exact decodeBytes_path_append .extendedPending rfl rfl
  case extNoop op => exact decodeBytes_path_append .extendedPending rfl (decodeExtended_of_extHole hwf)
  -- the gated subset
  case swapnib | mirrorA | bsla | bsra | bsrl | bsrf | brlc | mulDE | addHlA | addDeA | addBcA | outinb | pixeldn | pixelad
      | setae | jpC | ldix | ldws | lddx | ldirx | ldpirx | lddrx | testN | nextregA | nextregN =>
    exact decodeBytes_path_append .extendedPending rfl (decodeExtended_of_extOn rfl hwf)
  case addHlNn nn | addDeNn nn | addBcNn nn =>
    exact decodeBytes_path_word .extendedPending nn rfl (decodeExtended_of_extOn rfl hwf)
  case pushNn nn =>
    exact decodeBytes_path_append .extendedPending rfl ((decodeExtended_of_extOn rfl hwf).trans
      (congrArg (fun w => (Instr.pushNn w, 3)) (joinBytes_hi_lo nn)))

end Sys2Proof
end

section
/-! Words written out from the spec's encodings (R97, R98, R102, R108 to R111, R440, R456). -/

namespace Sys2Proof

/-- Settles O4, by running the decoder on each word. -/
theorem specEncodingsDecode : Obligations.SpecEncodingsDecode := by
  unfold Obligations.SpecEncodingsDecode
  decide

end Sys2Proof
end

section
/-! 8-bit arithmetic and logic (R143 to R146, R260 to R268, R443). The forms of an operation differ in their operand only,
so what a form does is said once; the rest is the spec of the operation on two bytes. -/

namespace Sys2Proof.Machine

variable {s : State} {x : Idx} {r : Reg8} {h : Half} {n d : Byte}

/-! ### Accumulator operations -/

/-- Every form of an accumulator operation reads its operand and leaves the operation's result in A and F (R260). -/
theorem State.operates_of_mem_accForms {k : AluKind} {e : AccForm} (he : e ∈ accForms k s x r h n d) :
    ∃ t, exec e.instr s = .next t ∧ (t.a, t.f) = aluResult k s.a e.operand s.f ∧
      t = { s with af := t.af, wz := e.wz, ticks := s.ticks + e.ticks, deviceCalls := e.reads ++ s.deviceCalls } := by
  cases k <;>
  · simp only [accForms, accInstrs, List.zipWith_cons_cons, List.zipWith_nil_left, List.mem_cons, List.not_mem_nil,
      or_false] at he
    obtain rfl | rfl | rfl | rfl | rfl | rfl | rfl := he <;>
      exact ⟨_, rfl, Prod.ext (hiByte_joinBytes ..) (loByte_joinBytes ..), rfl⟩

/-- Settles O26: every form is one ADD8, with the carry 0 or C. -/
theorem additionsSetTheAccumulator : Obligations.AdditionsSetTheAccumulator := by
  intro s x r h n d p hp e he
  obtain ⟨cin, hcin, hk⟩ : ∃ cin : Bool, p.2 = cin.toNat ∧ ∀ v, aluResult p.1 s.a v s.f = add8 s.a v cin := by
    simp only [List.mem_cons, List.not_mem_nil, or_false] at hp
    obtain rfl | rfl := hp
    · exact ⟨false, rfl, fun _ => rfl⟩
    · exact ⟨fC s.f, rfl, fun _ => rfl⟩
  obtain ⟨t, ho, haf, ht⟩ := State.operates_of_mem_accForms he
  obtain ⟨hsum, hsz, hh, hpv, hn, hc⟩ := add8_spec s.a e.operand cin
  rw [← hk, ← haf] at hsum hsz hh hpv hn hc
  rw [hcin]
  exact ⟨t, ho, hsum, hsz, hh, hpv, hn, hc, ht⟩

/-- Settles O27: every form is one SUB8, with the borrow 0 or C. -/
theorem subtractionsSetTheAccumulator : Obligations.SubtractionsSetTheAccumulator := by
  intro s x r h n d p hp e he
  obtain ⟨cin, hcin, hk⟩ : ∃ cin : Bool, p.2 = cin.toNat ∧ ∀ v, aluResult p.1 s.a v s.f = sub8 s.a v cin := by
    simp only [List.mem_cons, List.not_mem_nil, or_false] at hp
    obtain rfl | rfl := hp
    · exact ⟨false, rfl, fun _ => rfl⟩
    · exact ⟨fC s.f, rfl, fun _ => rfl⟩
  obtain ⟨t, ho, haf, ht⟩ := State.operates_of_mem_accForms he
  obtain ⟨hdiff, hsz, hh, hpv, hn, hc⟩ := sub8_spec s.a e.operand cin
  rw [← hk, ← haf] at hdiff hsz hh hpv hn hc
  rw [hcin]
  exact ⟨t, ho, hdiff, hsz, hh, hpv, hn, hc, ht⟩

/-- SUB8 without a borrow is the difference of the bytes. -/
theorem fst_sub8 (a b : Byte) : (sub8 a b false).1 = a - b := by
  apply BitVec.eq_of_toNat_eq
  rw [(sub8_spec a b false).1, BitVec.toNat_sub, Bool.toNat_false]
  have := b.isLt
  omega

/-- CP8: the flags of the difference, but Y and X of the operand (R145). -/
theorem cp8_spec (a b : Byte) :
    fZ (cp8 a b) = decide (a = b) ∧ fC (cp8 a b) = decide (a.toNat < b.toNat) ∧ fS (cp8 a b) = (a - b).getLsbD 7 ∧
    fY (cp8 a b) = b.getLsbD 5 ∧ fX (cp8 a b) = b.getLsbD 3 ∧ fH (cp8 a b) = decide (a.toNat % 16 < b.toNat % 16) ∧
    fN (cp8 a b) = true ∧ fPV (cp8 a b) = decide (a.toInt - b.toInt < -128 ∨ 127 < a.toInt - b.toInt) := by
  obtain ⟨-, ⟨hs, hz, -, -⟩, hh, hpv, hn, hc⟩ := sub8_spec a b false
  rw [fst_sub8] at hs hz
  simp only [Bool.toNat_false, Nat.add_zero, Int.natCast_zero, Int.sub_zero] at hh hpv hc
  simp only [cp8, fS_flagByte, fZ_flagByte, fY_flagByte, fH_flagByte, fX_flagByte, fPV_flagByte, fN_flagByte, fC_flagByte]
  refine ⟨hz.trans ?_, hc, hs.trans (getLsbD_seven _).symm, trivial, trivial, hh, hn, hpv⟩
  rw [decide_eq_decide]
  have := a.isLt
  have := b.isLt
  bv_omega

/-- Settles O28: every form is one CP8, and keeps A. -/
theorem comparesKeepTheAccumulator : Obligations.ComparesKeepTheAccumulator := by
  intro s x r h n d e he
  obtain ⟨t, ho, haf, ht⟩ := State.operates_of_mem_accForms he
  obtain ⟨ha, hf⟩ := Prod.mk.inj haf
  obtain ⟨hz, hc, hs, hy, hx, hh, hn, hpv⟩ := cp8_spec s.a e.operand
  rw [← hf] at hz hc hs hy hx hh hn hpv
  exact ⟨t, ho, ha, hz, hc, hs, hy, hx, hh, hn, hpv, ht⟩

/-- `LOGIC(res, h)` (R146). -/
theorem logicFlags_spec (v : Byte) (b : Bool) :
    flagsOf (logicFlags v b) v ∧ fPV (logicFlags v b) = evenOnes v ∧ fH (logicFlags v b) = b ∧
    fN (logicFlags v b) = false ∧ fC (logicFlags v b) = false := by
  refine ⟨flagsOf_szxyWith .., ?_, ?_, ?_, ?_⟩
  · simp only [logicFlags, szxypWith, szxyWith, fPV_flagByte, parity_eq]
  · simp only [logicFlags, szxypWith, szxyWith, fH_flagByte]
  · simp only [logicFlags, szxypWith, szxyWith, fN_flagByte]
  · simp only [logicFlags, szxypWith, szxyWith, fC_flagByte]

/-- Settles O29: every form leaves its result in A with the flags of LOGIC; TEST writes those flags alone. -/
theorem logicSetsTheAccumulator : Obligations.LogicSetsTheAccumulator := by
  intro s x r h n d
  refine ⟨fun p hp e he => ?_, ?_⟩
  · have hk : aluResult p.1 s.a e.operand s.f = (p.2.1 e.operand, logicFlags (p.2.1 e.operand) p.2.2) := by
      simp only [List.mem_cons, List.not_mem_nil, or_false] at hp
      obtain rfl | rfl | rfl := hp <;> rfl
    obtain ⟨t, ho, haf, ht⟩ := State.operates_of_mem_accForms he
    obtain ⟨ha, hf⟩ := Prod.mk.inj (haf.trans hk)
    obtain ⟨hsz, hpv, hh, hn, hc⟩ := logicFlags_spec (p.2.1 e.operand) p.2.2
    rw [← hf, ← ha] at hsz hpv
    rw [← hf] at hh hn hc
    exact ⟨t, ho, ha, hsz, hpv, hh, hn, hc, ht⟩
  · obtain ⟨hsz, hpv, hh, hn, hc⟩ := logicFlags_spec (s.a &&& n) true
    rw [← s.f_setF (logicFlags (s.a &&& n) true)] at hsz hpv hh hn hc
    exact ⟨_, rfl, s.a_setF _, hsz, hpv, hh, hn, hc, rfl⟩

end Sys2Proof.Machine
end

section
/-! Decimal adjustment (R150, R290) and 16-bit arithmetic (R151 to R153, R320 to R322). -/

namespace Sys2Proof.Machine

variable {o : Out} {s : State} {x : Idx} {c : Nat}

/-! ### Decimal adjustment -/

/-- The number DAA adds to A or subtracts from it (R150). -/
def daaCorrection (a f : Byte) : Nat :=
  (if fH f = true ∨ 9 < a.toNat % 16 then 6 else 0) + (if fC f = true ∨ 153 < a.toNat then 96 else 0)

/-- The correction as DAA8 computes it, in bytes. -/
theorem toNat_daaCorrection (a f : Byte) :
    ((if (fH f || decide ((a &&& 0x0F).toNat > 9)) = true then (0x06 : Byte) else 0x00) +
      (if (fC f || decide (a.toNat > 0x99)) = true then 0x60 else 0x00)).toNat = daaCorrection a f := by
  simp only [toNat_and_low, Bool.or_eq_true, decide_eq_true_eq, gt_iff_lt, daaCorrection]
  split <;> split <;> rfl

theorem daaCorrection_le (a f : Byte) : daaCorrection a f ≤ 102 := by
  unfold daaCorrection
  split <;> split <;> decide

/-- DAA8 in integer arithmetic (R150). -/
theorem daa8_spec (a f : Byte) :
    (daa8 a f).1.toNat =
      (if fN f then (256 + a.toNat - daaCorrection a f) % 256 else (a.toNat + daaCorrection a f) % 256) ∧
    flagsOf (daa8 a f).2 (daa8 a f).1 ∧ fPV (daa8 a f).2 = evenOnes (daa8 a f).1 ∧ fN (daa8 a f).2 = fN f ∧
    fC (daa8 a f).2 = (fC f || decide (153 < a.toNat)) ∧
    fH (daa8 a f).2 = (if fN f then fH f && decide (a.toNat % 16 < 6) else decide (9 < a.toNat % 16)) := by
  refine ⟨?_, flagsOf_szxyWith .., ?_, ?_, ?_, ?_⟩
  · have hle := daaCorrection_le a f
    simp only [daa8]
    split
    · rw [BitVec.toNat_sub, toNat_daaCorrection]
      omega
    · rw [BitVec.toNat_add, toNat_daaCorrection]
  · simp only [daa8, szxypWith, szxyWith, fPV_flagByte, parity_eq]
  · simp only [daa8, szxypWith, szxyWith, fN_flagByte]
  · simp only [daa8, szxypWith, szxyWith, fC_flagByte, gt_iff_lt]
  · simp only [daa8, szxypWith, szxyWith, fH_flagByte, toNat_and_low, gt_iff_lt]

/-- Settles O31: both rows are one DAA8. -/
theorem decimalAdjustCorrects : Obligations.DecimalAdjustCorrects := by
  intro s x e he
  have ho : exec e s = .next (s.setAF (daa8 s.a s.f)) := by
    simp only [List.mem_cons, List.not_mem_nil, or_false] at he
    obtain rfl | rfl := he <;> rfl
  obtain ⟨hv, hsz, hpv, hn, hc, hh⟩ := daa8_spec s.a s.f
  rw [← s.a_setAF (daa8 s.a s.f)] at hv hsz hpv
  rw [← s.f_setAF (daa8 s.a s.f)] at hsz hpv hn hc hh
  exact ⟨_, ho, ⟨_, rfl, hv⟩, hsz, hpv, hn, hc, hh, rfl⟩

/-- The correction after an operation that left H as `p` and C as `q`; its high part is 96 where DAA sets C. -/
theorem daaCorrection_of_flags {a f : Byte} {p q : Prop} [Decidable p] [Decidable q] (hh : fH f = decide p)
    (hc : fC f = decide q) :
    daaCorrection a f = (if p ∨ 9 < a.toNat % 16 then 6 else 0) + 96 * (fC (daa8 a f).2).toNat ∧
    (fC (daa8 a f).2).toNat = if q ∨ 153 < a.toNat then 1 else 0 := by
  obtain ⟨-, -, -, -, hfix, -⟩ := daa8_spec a f
  have hfix : (fC (daa8 a f).2).toNat = if q ∨ 153 < a.toNat then 1 else 0 := by
    rw [hfix, hc, ← Bool.decide_or, Bool.toNat, Bool.cond_decide]
  refine ⟨?_, hfix⟩
  simp only [daaCorrection, hfix, hh, hc, decide_eq_true_eq]
  split <;> split <;> rfl

/-- The sum of two packed decimal bytes, corrected: its two digits, with the carry before them, are the decimal sum. -/
theorem decimal_sum {a b k res low carry : Nat} (ha : a / 16 < 10) (ha' : a % 16 < 10) (hb : b / 16 < 10)
    (hb' : b % 16 < 10) (hk : k ≤ 1) (hres : res = (a + b + k) % 256)
    (hlow : low = if 15 < a % 16 + b % 16 + k ∨ 9 < res % 16 then 6 else 0)
    (hcarry : carry = if 255 < a + b + k ∨ 153 < res then 1 else 0) :
    (res + (low + 96 * carry)) % 256 / 16 < 10 ∧ (res + (low + 96 * carry)) % 256 % 16 < 10 ∧
    100 * carry + 10 * ((res + (low + 96 * carry)) % 256 / 16) + (res + (low + 96 * carry)) % 256 % 16 =
      10 * (a / 16) + a % 16 + 10 * (b / 16) + b % 16 + k := by
  split at hlow <;> split at hcarry <;> omega

/-- The difference of two packed decimal bytes, corrected: its two digits are the decimal difference, 100 more where there
is a borrow. -/
theorem decimal_difference {a b k res low borrow : Nat} (ha : a / 16 < 10) (ha' : a % 16 < 10) (hb : b / 16 < 10)
    (hb' : b % 16 < 10) (hk : k ≤ 1) (hres : res = (512 + a - b - k) % 256)
    (hlow : low = if a % 16 < b % 16 + k ∨ 9 < res % 16 then 6 else 0)
    (hborrow : borrow = if a < b + k ∨ 153 < res then 1 else 0) :
    (256 + res - (low + 96 * borrow)) % 256 / 16 < 10 ∧ (256 + res - (low + 96 * borrow)) % 256 % 16 < 10 ∧
    10 * ((256 + res - (low + 96 * borrow)) % 256 / 16) + (256 + res - (low + 96 * borrow)) % 256 % 16 +
      10 * (b / 16) + b % 16 + k = 100 * borrow + 10 * (a / 16) + a % 16 := by
  split at hlow <;> split at hborrow <;> omega

section

variable {a b : Byte} (ha : a.toNat / 16 < 10) (ha' : a.toNat % 16 < 10) (hb : b.toNat / 16 < 10)
  (hb' : b.toNat % 16 < 10) (cin : Bool)

include ha ha' hb hb'

/-- DAA8 after ADD8 of packed decimal bytes. -/
theorem daa8_add8 {w : Byte × Byte} (hw : w = daa8 (add8 a b cin).1 (add8 a b cin).2) :
    w.1.toNat / 16 < 10 ∧ w.1.toNat % 16 < 10 ∧
    100 * (fC w.2).toNat + 10 * (w.1.toNat / 16) + w.1.toNat % 16 =
      10 * (a.toNat / 16) + a.toNat % 16 + 10 * (b.toNat / 16) + b.toNat % 16 + cin.toNat := by
  obtain ⟨hres, -, hh, -, hn, hc⟩ := add8_spec a b cin
  obtain ⟨hcorr, hcarry⟩ := daaCorrection_of_flags (a := (add8 a b cin).1) hh hc
  obtain ⟨hv, -⟩ := daa8_spec (add8 a b cin).1 (add8 a b cin).2
  rw [hn, if_neg Bool.false_ne_true, hcorr] at hv
  rw [hw, hv]
  exact decimal_sum ha ha' hb hb' (Bool.toNat_le cin) hres rfl hcarry

/-- DAA8 after SUB8 of packed decimal bytes. -/
theorem daa8_sub8 {w : Byte × Byte} (hw : w = daa8 (sub8 a b cin).1 (sub8 a b cin).2) :
    w.1.toNat / 16 < 10 ∧ w.1.toNat % 16 < 10 ∧
    10 * (w.1.toNat / 16) + w.1.toNat % 16 + 10 * (b.toNat / 16) + b.toNat % 16 + cin.toNat =
      100 * (fC w.2).toNat + 10 * (a.toNat / 16) + a.toNat % 16 := by
  obtain ⟨hres, -, hh, -, hn, hc⟩ := sub8_spec a b cin
  obtain ⟨hcorr, hborrow⟩ := daaCorrection_of_flags (a := (sub8 a b cin).1) hh hc
  obtain ⟨hv, -⟩ := daa8_spec (sub8 a b cin).1 (sub8 a b cin).2
  rw [hn, if_pos rfl, hcorr] at hv
  rw [hw, hv]
  exact decimal_difference ha ha' hb hb' (Bool.toNat_le cin) hres rfl hborrow

end

/-- DAA after an accumulator operation corrects the operation's result. -/
theorem State.adjusts_after_alu (s : State) (k : AluKind) (v : Byte) (c : Nat) :
    ∃ u, exec .daa ((s.alu k v).tick c) = .next u ∧
      (u.a, u.f) = daa8 (aluResult k s.a v s.f).1 (aluResult k s.a v s.f).2 := by
  refine ⟨_, rfl, ?_⟩
  rw [← s.a_setAF (aluResult k s.a v s.f), ← s.f_setAF (aluResult k s.a v s.f)]
  exact Prod.ext (hiByte_joinBytes ..) (loByte_joinBytes ..)

/-- Settles O32: the two rows are ADD8 and SUB8 with the carry, and DAA corrects their result. -/
theorem decimalArithmeticIsExact : Obligations.DecimalArithmeticIsExact := by
  intro s n ha ha' hn hn'
  refine ⟨?_, ?_⟩
  · obtain ⟨u, hu, hv⟩ := s.adjusts_after_alu .adc n 3
    exact ⟨_, u, rfl, hu, daa8_add8 ha ha' hn hn' (fC s.f) hv⟩
  · obtain ⟨u, hu, hv⟩ := s.adjusts_after_alu .sbc n 3
    exact ⟨_, u, rfl, hu, daa8_sub8 ha ha' hn hn' (fC s.f) hv⟩

/-! ### 16-bit arithmetic -/

/-- ADD16 in integer arithmetic (R151). -/
theorem add16_spec (a b : Word) (f : Byte) :
    (add16 a b f).1.toNat = (a.toNat + b.toNat) % 65536 ∧ addWordFlagsTo a b (add16 a b f).1 f (add16 a b f).2 := by
  refine ⟨by simp only [add16, BitVec.toNat_ofNat], ?_⟩
  simp only [addWordFlagsTo, add16, fS_flagByte, fZ_flagByte, fY_flagByte, fH_flagByte, fX_flagByte, fPV_flagByte,
    fN_flagByte, fC_flagByte, toNat_and_low12, gt_iff_lt, and_self]

/-- ADC16 in integer arithmetic: the sum, the carries, and PV as signed overflow (R152, R154). -/
theorem adc16_spec (a b : Word) (cin : Bool) :
    (adc16 a b cin).1.toNat = (a.toNat + b.toNat + cin.toNat) % 65536 ∧
    flagsOf16 (adc16 a b cin).2 (adc16 a b cin).1 ∧
    fH (adc16 a b cin).2 = decide (4095 < a.toNat % 4096 + b.toNat % 4096 + cin.toNat) ∧
    fPV (adc16 a b cin).2 =
      decide (a.toInt + b.toInt + cin.toNat < -32768 ∨ 32767 < a.toInt + b.toInt + cin.toNat) ∧
    fN (adc16 a b cin).2 = false ∧ fC (adc16 a b cin).2 = decide (65535 < a.toNat + b.toNat + cin.toNat) := by
  refine ⟨by simp only [adc16, BitVec.toNat_ofNat], flagsOf16_szxyWith16 .., ?_, ?_, ?_, ?_⟩
  · simp only [adc16, szxyWith16, fH_flagByte, toNat_and_low12, gt_iff_lt]
  · have := a.isLt
    have := b.isLt
    have := Bool.toNat_le cin
    simp only [adc16, szxyWith16, fPV_flagByte, getLsbD_fifteen, BitVec.toInt_eq_toNat_cond, BitVec.toNat_ofNat]
    rw [Bool.eq_iff_iff]
    simp only [Bool.and_eq_true, beq_iff_eq, bne_iff_ne, ne_eq, decide_eq_decide, decide_eq_true_eq]
    split <;> split <;> omega
  · simp only [adc16, szxyWith16, fN_flagByte]
  · simp only [adc16, szxyWith16, fC_flagByte, gt_iff_lt]

/-- SBC16 in integer arithmetic: the difference, the borrows, and PV as signed overflow (R153, R154). -/
theorem sbc16_spec (a b : Word) (cin : Bool) :
    (sbc16 a b cin).1.toNat = (131072 + a.toNat - b.toNat - cin.toNat) % 65536 ∧
    flagsOf16 (sbc16 a b cin).2 (sbc16 a b cin).1 ∧
    fH (sbc16 a b cin).2 = decide (a.toNat % 4096 < b.toNat % 4096 + cin.toNat) ∧
    fPV (sbc16 a b cin).2 =
      decide (a.toInt - b.toInt - cin.toNat < -32768 ∨ 32767 < a.toInt - b.toInt - cin.toNat) ∧
    fN (sbc16 a b cin).2 = true ∧ fC (sbc16 a b cin).2 = decide (a.toNat < b.toNat + cin.toNat) := by
  have ha := a.isLt
  have hb := b.isLt
  have hc := Bool.toNat_le cin
  have hres : (BitVec.ofInt 16 ((a.toNat : Int) - b.toNat - cin.toNat)).toNat =
      (131072 + a.toNat - b.toNat - cin.toNat) % 65536 := by
    rw [BitVec.toNat_ofInt]
    omega
  refine ⟨hres, flagsOf16_szxyWith16 .., ?_, ?_, ?_, ?_⟩
  · simp only [sbc16, szxyWith16, fH_flagByte, toNat_and_low12]
    rw [decide_eq_decide]
    omega
  · simp only [sbc16, szxyWith16, fPV_flagByte, getLsbD_fifteen, BitVec.toInt_eq_toNat_cond, hres]
    rw [Bool.eq_iff_iff]
    simp only [Bool.and_eq_true, bne_iff_ne, ne_eq, decide_eq_decide, decide_eq_true_eq]
    split <;> split <;> omega
  · simp only [sbc16, szxyWith16, fN_flagByte]
  · simp only [sbc16, szxyWith16, fC_flagByte]
    rw [decide_eq_decide]
    omega

/-- An outcome that leaves a result in HL and F, and WZ one above the old HL (R320 to R322). -/
theorem State.writes_hl_and_flags {v : Word × Byte}
    (ho : o = .next ((((s.setWz (s.hl + 1)).setHl v.1).setF v.2).tick c)) :
    ∃ t, o = .next t ∧ (t.hl, t.f) = v ∧ t.a = s.a ∧
      t = { s with af := t.af, hl := t.hl, wz := s.hl + 1, ticks := s.ticks + c } :=
  ⟨_, ho, Prod.ext rfl (State.f_setF _ _), s.a_setF v.2, rfl⟩

/-- The same for an index register (R320). -/
theorem State.writes_idx_and_flags {v : Word × Byte}
    (ho : o = .next ((((s.setWz (s.idx x + 1)).setIdx x v.1).setF v.2).tick c)) :
    ∃ t, o = .next t ∧ (t.idx x, t.f) = v ∧ t.a = s.a ∧ (∀ y, y ≠ x → t.idx y = s.idx y) ∧
      t = { s with af := t.af, ix := t.ix, iy := t.iy, wz := s.idx x + 1, ticks := s.ticks + c } := by
  have hidx := (s.setWz (s.idx x + 1)).idx_setIdx x (v := v.1)
  cases x <;>
    exact ⟨_, ho, Prod.ext rfl (State.f_setF _ _), s.a_setF v.2, fun y hy => (hidx y).trans (if_neg hy), rfl⟩

/-- In index mode the selector of HL reads the index register (R94, R320). -/
theorem State.rpX_eq (s : State) (x : Idx) (p : Rp) : s.rpX x p = if p = .hl then s.idx x else s.rp p := by
  cases p <;> rfl

/-- Settles O36: each form leaves the result of one word operation in its destination and F. -/
theorem wordArithmetic : Obligations.WordArithmetic := by
  intro s x p
  refine ⟨?_, ?_, ?_, ?_⟩
  · obtain ⟨t, ho, hv, ha, ht⟩ :=
      State.writes_hl_and_flags (v := add16 s.hl (s.rp p) s.f) (c := 7) (o := exec (.addHlRp p) s) rfl
    obtain ⟨hsum, hf⟩ := add16_spec s.hl (s.rp p) s.f
    rw [← hv] at hsum hf
    exact ⟨t, ho, hsum, hf, ha, ht⟩
  · obtain ⟨t, ho, hv, ha, hy, ht⟩ :=
      State.writes_idx_and_flags (v := add16 (s.idx x) (s.rpX x p) s.f) (c := 7) (o := exec (.addXRp x p) s) rfl
    obtain ⟨hsum, hf⟩ := add16_spec (s.idx x) (s.rpX x p) s.f
    rw [← hv] at hsum hf
    rw [s.rpX_eq] at hsum hf
    exact ⟨t, ho, hsum, hf, ha, hy, ht⟩
  · obtain ⟨t, ho, hv, ha, ht⟩ :=
      State.writes_hl_and_flags (v := adc16 s.hl (s.rp p) (fC s.f)) (c := 7) (o := exec (.adcHlRp p) s) rfl
    obtain ⟨hsum, hsz, hh, hpv, hn, hc⟩ := adc16_spec s.hl (s.rp p) (fC s.f)
    rw [← hv] at hsum hsz hh hpv hn hc
    exact ⟨t, ho, hsum, hsz, hh, hpv, hn, hc, ha, ht⟩
  · obtain ⟨t, ho, hv, ha, ht⟩ :=
      State.writes_hl_and_flags (v := sbc16 s.hl (s.rp p) (fC s.f)) (c := 7) (o := exec (.sbcHlRp p) s) rfl
    obtain ⟨hdiff, hsz, hh, hpv, hn, hc⟩ := sbc16_spec s.hl (s.rp p) (fC s.f)
    rw [← hv] at hdiff hsz hh hpv hn hc
    exact ⟨t, ho, hdiff, hsz, hh, hpv, hn, hc, ha, ht⟩

end Sys2Proof.Machine
end

section
/-! INC and DEC, rotates and shifts (R141, R142, R147 to R149, R269 to R272, R340 to R352). Each reads a byte, operates
and writes back: what a write-back to each kind of destination does is proved once, for any operation `g`. -/

namespace Sys2Proof.Machine

variable {o : Out} {s : State} {x : Idx} {r : Reg8} {h : Half} {d : Byte} {a : Word} {c : Nat} {dec : Bool}
  {g : Byte → Byte → Byte × Byte}

/-! ### Writing back -/

/-- F is read by no register selector. -/
theorem State.r8_setF (s : State) (v : Byte) (q : Reg8) : (s.setF v).r8 q = s.r8 q := by
  cases q with
  | a => exact s.a_setF v
  | _ => rfl

/-- What a store changed does not depend on the registers. -/
theorem State.storesByte_congr {t u : State} {v : Byte} (hr : ∀ b, u.read b = t.read b) (hm : u.mem = t.mem)
    (h : s.storesByte t a v) : s.storesByte u a v := by
  unfold State.storesByte at h ⊢
  simp only [hr, hm]
  exact h

/-- Reading the byte first does not change what a store changes. -/
theorem State.storesByte_write_afterRead (s : State) (a : Word) (v : Byte) (hw : s.mem.wf = true) :
    s.storesByte ((s.afterRead a).write a v) a v := by
  have hs := (s.afterRead a).storesByte_write a v hw
  unfold State.storesByte at hs ⊢
  rw [State.afterRead_cfg] at hs
  split
  · rename_i hr
    simp only [hr, State.read_afterRead hr] at hs
    exact hs
  · rename_i hr
    simp only [hr] at hs
    exact hs

/-- An outcome `(r, F) <- g(r, F)` (R269, R344). -/
theorem State.modifies_of_modR8 (ho : o = .next ((s.modR8 r g).tick c)) :
    ∃ t, o = .next t ∧ (∀ q, t.r8 q = if q = r then (g (s.r8 r) s.f).1 else s.r8 q) ∧ t.f = (g (s.r8 r) s.f).2 ∧
      t = { s with af := t.af, bc := t.bc, de := t.de, hl := t.hl, ticks := s.ticks + c } := by
  rcases hg : g (s.r8 r) s.f with ⟨v, f⟩
  simp only [State.modR8, hg] at ho
  refine ⟨_, ho, fun q => ?_, (s.setR8 r v).f_setF f, ?_⟩
  · exact ((s.setR8 r v).r8_setF f q).trans (s.r8_setR8 r q v)
  · exact congrArg (fun u : State => (u.setF f).tick c) (s.setR8_frame r v)

/-- An outcome `(XH, F) <- g(XH, F)`, or the same of XL (R269). -/
theorem State.modifies_of_modHalf (ho : o = .next ((s.modHalf x h g).tick c)) :
    ∃ t, o = .next t ∧ (∀ k, t.half x k = if k = h then (g (s.half x h) s.f).1 else s.half x k) ∧
      (∀ y, y ≠ x → t.idx y = s.idx y) ∧ t.a = s.a ∧ t.f = (g (s.half x h) s.f).2 ∧
      t = { s with af := t.af, ix := t.ix, iy := t.iy, ticks := s.ticks + c } := by
  rcases hg : g (s.half x h) s.f with ⟨v, f⟩
  simp only [State.modHalf, hg] at ho
  have haf := s.setHalf_af x h v
  refine ⟨_, ho, fun k => s.half_setHalf x h k v, fun y hy => State.idx_setHalf hy s h v, ?_,
    (s.setHalf x h v).f_setF f, ?_⟩
  · exact ((s.setHalf x h v).a_setF f).trans (congrArg hiByte haf)
  · refine (congrArg (fun u : State => (u.setF f).tick c) (s.setHalf_frame x h v)).trans ?_
    rw [← haf]
    rfl

/-- An outcome that reads the byte at `a`, operates and writes it back (R270, R344). -/
theorem State.modifies_of_modMem (ho : o = .next ((s.modMem a g).tick c)) (hw : s.mem.wf = true) :
    ∃ t, o = .next t ∧ s.storesByte t a (g (s.read a) s.f).1 ∧ t.f = (g (s.read a) s.f).2 ∧ t.a = s.a ∧
      t = { s with mem := t.mem, af := t.af, ticks := s.ticks + c,
                   deviceCalls := .memWrite a (g (s.read a) s.f).1 :: .memRead a (s.read a) :: s.deviceCalls } := by
  refine ⟨_, ho, ?_, State.f_setF _ _, State.a_setF _ _, rfl⟩
  exact State.storesByte_congr (fun _ => rfl) rfl (s.storesByte_write_afterRead a _ hw)

/-- An outcome that writes back to (X+d) and copies the result to a register (R344). -/
theorem State.modifies_of_modXdCopy (ho : o = .next ((s.modXdCopy x d r g).tick c)) (hw : s.mem.wf = true) :
    ∃ t, o = .next t ∧ s.storesByte t (s.ea x d) (g (s.read (s.ea x d)) s.f).1 ∧
      t.f = (g (s.read (s.ea x d)) s.f).2 ∧
      (∀ q, t.r8 q = if q = r then (g (s.read (s.ea x d)) s.f).1 else s.r8 q) ∧
      t = { s with
        mem := t.mem, af := t.af, bc := t.bc, de := t.de, hl := t.hl, wz := s.ea x d, ticks := s.ticks + c
        deviceCalls := .memWrite (s.ea x d) (g (s.read (s.ea x d)) s.f).1 :: .memRead (s.ea x d) (s.read (s.ea x d)) ::
          s.deviceCalls } := by
  refine ⟨_, ho, ?_, (State.f_setR8 _ r _).trans (State.f_setF _ _), fun q => ?_, ?_⟩
  · exact State.storesByte_congr (State.setR8_read _ r _) (State.setR8_mem _ r _)
      (State.storesByte_write_afterRead (s.setWz (s.ea x d)) (s.ea x d) _ hw)
  · refine (State.r8_setR8 _ r q _).trans ?_
    rw [State.modXd, State.modMem, State.r8_setF]
    cases q <;> rfl
  · refine (congrArg (State.tick · c) (State.setR8_frame _ r _)).trans ?_
    rw [← State.setR8_mem (s.modXd x d g) r (g (s.read (s.ea x d)) s.f).1]
    rfl

/-! ### INC and DEC -/

/-- DEC8 or INC8, as `dec` says (R141, R142). -/
def stepOp : Bool → Byte → Byte → Byte × Byte
  | false => inc8
  | true => dec8

theorem fst_stepOp (dec : Bool) (v f : Byte) : (stepOp dec v f).1 = if dec then v - 1 else v + 1 := by
  cases dec <;> rfl

theorem stepFlagsTo_stepOp (dec : Bool) (v f : Byte) : stepFlagsTo dec v f (stepOp dec v f).2 := by
  cases dec
  · exact stepFlagsTo_inc8 v f
  · exact stepFlagsTo_dec8 v f

/-- An outcome that steps a register (R269, R271). -/
theorem State.steps_r8_of_modR8 (ho : o = .next ((s.modR8 r (stepOp dec)).tick c)) :
    ∃ t, o = .next t ∧ (∀ q, t.r8 q = if q = r then (if dec then s.r8 r - 1 else s.r8 r + 1) else s.r8 q) ∧
      stepFlagsTo dec (s.r8 r) s.f t.f ∧
      t = { s with af := t.af, bc := t.bc, de := t.de, hl := t.hl, ticks := s.ticks + c } := by
  obtain ⟨t, ho, hv, hf, ht⟩ := State.modifies_of_modR8 ho
  rw [fst_stepOp] at hv
  exact ⟨t, ho, hv, hf ▸ stepFlagsTo_stepOp dec _ _, ht⟩

/-- An outcome that steps XH or XL (R269, R271). -/
theorem State.steps_half_of_modHalf (ho : o = .next ((s.modHalf x h (stepOp dec)).tick c)) :
    ∃ t, o = .next t ∧
      (∀ k, t.half x k = if k = h then (if dec then s.half x h - 1 else s.half x h + 1) else s.half x k) ∧
      (∀ y, y ≠ x → t.idx y = s.idx y) ∧ t.a = s.a ∧ stepFlagsTo dec (s.half x h) s.f t.f ∧
      t = { s with af := t.af, ix := t.ix, iy := t.iy, ticks := s.ticks + c } := by
  obtain ⟨t, ho, hv, hy, ha, hf, ht⟩ := State.modifies_of_modHalf ho
  rw [fst_stepOp] at hv
  exact ⟨t, ho, hv, hy, ha, hf ▸ stepFlagsTo_stepOp dec _ _, ht⟩

/-- An outcome that steps a byte of memory (R270, R272). -/
theorem State.steps_byte_of_modMem (ho : o = .next ((s.modMem a (stepOp dec)).tick c)) (hw : s.mem.wf = true) :
    ∃ t, o = .next t ∧ s.storesByte t a (if dec then s.read a - 1 else s.read a + 1) ∧
      stepFlagsTo dec (s.read a) s.f t.f ∧ t.a = s.a ∧
      t = { s with
        mem := t.mem, af := t.af, ticks := s.ticks + c
        deviceCalls := .memWrite a (if dec then s.read a - 1 else s.read a + 1) :: .memRead a (s.read a) ::
          s.deviceCalls } := by
  obtain ⟨t, ho, hv, hf, ha, ht⟩ := State.modifies_of_modMem ho hw
  rw [fst_stepOp] at hv ht
  exact ⟨t, ho, hv, hf ▸ stepFlagsTo_stepOp dec _ _, ha, ht⟩

/-- Settles O30: every form writes back one byte stepped by INC8 or DEC8. -/
theorem stepsOfBytes : Obligations.StepsOfBytes := by
  intro s x r h d
  refine ⟨fun e he => ?_, fun e he => ?_, fun hw e he => ?_⟩
  · simp only [List.mem_cons, List.not_mem_nil, or_false] at he
    obtain rfl | rfl | rfl | rfl := he <;> exact State.steps_r8_of_modR8 (c := 0) rfl
  · simp only [List.mem_cons, List.not_mem_nil, or_false] at he
    obtain rfl | rfl := he <;> exact State.steps_half_of_modHalf (c := 0) rfl
  · simp only [List.mem_cons, List.not_mem_nil, or_false] at he
    obtain rfl | rfl | rfl | rfl := he
    · exact State.steps_byte_of_modMem (s := s) (dec := false) rfl hw
    · exact State.steps_byte_of_modMem (s := s) (dec := true) rfl hw
    · exact State.steps_byte_of_modMem (s := s.setWz (s.ea x d)) (dec := false) rfl hw
    · exact State.steps_byte_of_modMem (s := s.setWz (s.ea x d)) (dec := true) rfl hw

/-! ### Rotates and shifts -/

/-- The four families of the rotate and shift rows are ROTOP in the four forms of R344 (R345 to R352). -/
theorem exec_onReg (k : RotKind) (r : Reg8) (s : State) :
    exec (k.onReg r) s = .next ((s.modR8 r (rotOp k)).tick 0) := by cases k <;> rfl

theorem exec_onHl (k : RotKind) (s : State) : exec k.onHl s = .next ((s.modMem s.hl (rotOp k)).tick 7) := by
  cases k <;> rfl

theorem exec_onXd (k : RotKind) (x : Idx) (d : Byte) (s : State) :
    exec (k.onXd x d) s = .next (((s.setWz (s.ea x d)).modMem (s.ea x d) (rotOp k)).tick 15) := by cases k <;> rfl

theorem exec_onXdCopy (k : RotKind) (x : Idx) (d : Byte) (r : Reg8) (s : State) :
    exec (k.onXdCopy x d r) s = .next ((s.modXdCopy x d r (rotOp k)).tick 15) := by cases k <;> rfl

/-- Settles O38: every form writes back one rotated byte. -/
theorem rotatesAndShifts : Obligations.RotatesAndShifts := by
  intro s k x r d
  have hrot := rotatesTo_rotOp k
  refine ⟨?_, fun hw => ⟨?_, ?_, ?_⟩⟩
  · obtain ⟨t, ho, hv, hf, ht⟩ := State.modifies_of_modR8 (exec_onReg k r s)
    refine ⟨t, ho, ?_, fun q hq => (hv q).trans (if_neg hq), ht⟩
    rw [hv r, if_pos rfl, hf]
    exact hrot _ _
  · obtain ⟨t, ho, hv, hf, ha, ht⟩ := State.modifies_of_modMem (exec_onHl k s) hw
    exact ⟨t, _, ho, hf ▸ hrot _ _, hv, ha, ht⟩
  · obtain ⟨t, ho, hv, hf, ha, ht⟩ := State.modifies_of_modMem (exec_onXd k x d s) hw
    exact ⟨t, _, ho, hf ▸ hrot _ _, hv, ha, ht⟩
  · obtain ⟨t, ho, hv, hf, hq, ht⟩ := State.modifies_of_modXdCopy (exec_onXdCopy k x d r s) hw
    exact ⟨t, _, ho, hf ▸ hrot _ _, hv, hq, ht⟩

/-- An accumulator rotate has ROTOP's result and carry; its S, Z and PV are those before it (R149). -/
theorem accRotOp_spec (k : RotKind) (v f : Byte) :
    (accRotOp k v f).1.toNat = (k.table v.toNat (fC f).toNat).1 ∧
    fC (accRotOp k v f).2 = (k.table v.toNat (fC f).toNat).2 ∧ fS (accRotOp k v f).2 = fS f ∧
    fZ (accRotOp k v f).2 = fZ f ∧ fPV (accRotOp k v f).2 = fPV f ∧
    fY (accRotOp k v f).2 = (accRotOp k v f).1.getLsbD 5 ∧ fX (accRotOp k v f).2 = (accRotOp k v f).1.getLsbD 3 ∧
    fH (accRotOp k v f).2 = false ∧ fN (accRotOp k v f).2 = false := by
  obtain ⟨hv, -, -, -, -, hc⟩ := rotatesTo_rotOp k v f
  simp only [rotOp, szxypWith, szxyWith, fC_flagByte] at hv hc
  simp only [accRotOp, fS_flagByte, fZ_flagByte, fPV_flagByte, fY_flagByte, fX_flagByte, fH_flagByte, fN_flagByte,
    fC_flagByte]
  exact ⟨hv, hc, trivial, trivial, trivial, trivial, trivial, trivial, trivial⟩

/-- Settles O39: each of the eight rows is one accumulator rotate. -/
theorem accumulatorRotates : Obligations.AccumulatorRotates := by
  intro s x e he
  have ho : exec e.1 s = .next (s.accRot e.2) := by
    simp only [List.mem_cons, List.not_mem_nil, or_false] at he
    obtain rfl | rfl | rfl | rfl | rfl | rfl | rfl | rfl := he <;> rfl
  obtain ⟨hv, hc, hs, hz, hpv, hy, hx, hh, hn⟩ := accRotOp_spec e.2 s.a s.f
  rw [← s.a_setAF (accRotOp e.2 s.a s.f)] at hv hy hx
  rw [← s.f_setAF (accRotOp e.2 s.a s.f)] at hc hs hz hpv hy hx hh hn
  exact ⟨_, ho, hv, hc, hs, hz, hpv, hy, hx, hh, hn, rfl⟩

end Sys2Proof.Machine
end

section
/-! Loads and stores of a byte, and the loads of I and R (R182 to R197). -/

namespace Sys2Proof.Machine

variable {o : Out} {s : State} {r : Reg8} {v : Byte} {a : Word} {n : Nat}

/-! ### Byte loads -/

/-- An outcome that reads the byte at `a` into a register (R182). -/
theorem State.loads_r8_of_afterRead (ho : o = .next (((s.afterRead a).setR8 r (s.read a)).tick n)) :
    ∃ t, o = .next t ∧ (∀ q, t.r8 q = if q = r then s.read a else s.r8 q) ∧ t.f = s.f ∧
      t = { s with af := t.af, bc := t.bc, de := t.de, hl := t.hl, ticks := s.ticks + n
                   deviceCalls := .memRead a (s.read a) :: s.deviceCalls } :=
  State.loads_r8_of_setR8 (s := s.afterRead a) ho

/-- An outcome that reads the byte at `a` into A, and leaves `a + 1` in WZ (R188 to R190). -/
theorem State.loads_a_of_loadA (ho : o = .next ((s.loadA a).tick n)) :
    ∃ t, o = .next t ∧ t.a = s.read a ∧ t.f = s.f ∧
      t = { s with af := t.af, wz := a + 1, ticks := s.ticks + n
                   deviceCalls := .memRead a (s.read a) :: s.deviceCalls } :=
  ⟨_, ho, (s.afterRead a).a_setA _, (s.afterRead a).f_setA _, rfl⟩

/-- Settles O15: each form is one read into its register. -/
theorem byteLoadsReadTheirAddress : Obligations.ByteLoadsReadTheirAddress := by
  intro s x r d nn
  refine ⟨State.loads_r8_of_afterRead rfl,
    State.loads_r8_of_afterRead (s := s.setWz (s.ea x d)) (a := s.ea x d) rfl, fun e he => ?_⟩
  simp only [List.mem_cons, List.not_mem_nil, or_false] at he
  obtain rfl | rfl | rfl | rfl | rfl | rfl := he <;> exact State.loads_a_of_loadA rfl

/-! ### Byte stores -/

/-- An outcome that writes `v` at `a`, and leaves `w` in WZ (R184 to R187, R191 to R193). -/
theorem State.stores_byte_of_write {w : Word} (ho : o = .next (((s.write a v).setWz w).tick n))
    (hw : s.mem.wf = true) :
    ∃ t, o = .next t ∧ s.storesByte t a v ∧
      t = { s with mem := t.mem, wz := w, ticks := s.ticks + n, deviceCalls := .memWrite a v :: s.deviceCalls } :=
  ⟨_, ho, State.storesByte_congr (fun _ => rfl) rfl (s.storesByte_write a v hw), rfl⟩

/-- Settles O16: each form is one write of its byte and one of WZ; that of LD (HL) leaves in WZ what it held. -/
theorem byteStoresWriteOneByte : Obligations.ByteStoresWriteOneByte := by
  intro s x r d n nn hw e he
  simp only [List.mem_cons, List.not_mem_nil, or_false] at he
  obtain rfl | rfl | rfl | rfl | rfl | rfl | rfl | rfl | rfl | rfl := he <;>
    exact State.stores_byte_of_write rfl hw

/-! ### I and R -/

/-- The flags that `szxyWith` is given are those of its byte. -/
theorem given_flags_szxyWith (v : Byte) (h pv n c : Bool) :
    fH (szxyWith v h pv n c) = h ∧ fPV (szxyWith v h pv n c) = pv ∧ fN (szxyWith v h pv n c) = n ∧
    fC (szxyWith v h pv n c) = c :=
  ⟨fH_flagByte .., fPV_flagByte .., fN_flagByte .., fC_flagByte ..⟩

/-- An outcome that copies `v` to A with the flags of LD A,I (R194, R195). -/
theorem State.loads_a_of_ldASpecial (ho : o = .next ((s.ldASpecial v).tick n)) :
    ∃ t, o = .next t ∧ t.a = v ∧ flagsOf t.f v ∧ fH t.f = false ∧ fPV t.f = s.iff2 ∧ fN t.f = false ∧
      fC t.f = fC s.f ∧ t = { s with af := t.af, ticks := s.ticks + n } := by
  have hf : (s.ldASpecial v).f = szxyWith v false s.iff2 false (fC s.f) := s.f_setAF _
  have hsz := flagsOf_szxyWith v false s.iff2 false (fC s.f)
  obtain ⟨hh, hpv, hn, hc⟩ := given_flags_szxyWith v false s.iff2 false (fC s.f)
  rw [← hf] at hsz hh hpv hn hc
  exact ⟨_, ho, s.a_setAF _, hsz, hh, hpv, hn, hc, rfl⟩

/-- Settles O21: A gets I or R with the flags of LD A,I, and I or R gets A. -/
theorem specialRegisterLoads : Obligations.SpecialRegisterLoads := by
  intro s
  refine ⟨fun e he => ?_, rfl, rfl⟩
  simp only [List.mem_cons, List.not_mem_nil, or_false] at he
  obtain rfl | rfl := he <;> exact State.loads_a_of_ldASpecial rfl

end Sys2Proof.Machine
end

section
/-! Exchanges, block transfers and block searches (R230 to R241). A block instruction is one step and the repeat step, which
runs again while a condition of the state after the step holds; LDI and its like are those that never do. -/

namespace Sys2Proof.Machine

/-! ### Exchanges -/

/-- What a stored word changed does not depend on the registers. -/
theorem State.storesWord_congr {s t u : State} {a v : Word} (hr : ∀ b, u.read b = t.read b) (hm : u.mem = t.mem)
    (h : s.storesWord t a v) : s.storesWord u a v := by
  unfold State.storesWord at h ⊢
  simp only [hr, hm]
  exact h

/-- EX (SP) stores its word at SP, whatever order its two bytes are written in (R233). -/
theorem State.storesWord_exSp (s : State) (v : Word) (hw : s.mem.wf = true) : s.storesWord (s.exSp v) s.sp v := by
  unfold State.storesWord
  split
  · rename_i hr
    let u := s.afterRead16 s.sp
    let w := u.write (s.sp + 1) (hiByte v)
    have hru : u.cfg.memDevice = .ram := hr
    have hrw : w.cfg.memDevice = .ram := hr
    refine ⟨w.read_write_same s.sp _ hrw (u.wf_write _ _ hw), ?_, fun b hb hc => ?_⟩
    · calc (w.write s.sp (loByte v)).read (s.sp + 1)
        _ = w.read (s.sp + 1) := w.read_write_other _ _ _ hrw (Word.add_one_ne s.sp)
        _ = hiByte v := u.read_write_same _ _ hru hw
    · calc (w.write s.sp (loByte v)).read b
        _ = w.read b := w.read_write_other _ _ _ hrw hb
        _ = u.read b := u.read_write_other _ _ _ hru hc
        _ = (s.afterRead s.sp).read b := State.read_afterRead (s := s.afterRead s.sp) hr _ b
        _ = s.read b := State.read_afterRead hr _ b
  · rename_i hr
    simp only [State.exSp, State.write_mem, State.memWith, State.write_cfg, State.afterRead16_cfg,
      State.afterRead16_mem, hr]

/-- Reading a word changes the record of device calls only. -/
theorem State.afterRead16_frame (s : State) (a : Word) :
    s.afterRead16 a = { s with deviceCalls := s.wordReads a ++ s.deviceCalls } := rfl

/-- The accesses of EX (SP) change memory and the record of device calls only: two reads, then two writes (R233). -/
theorem State.exSp_frame (s : State) (v : Word) : ∃ m, s.exSp v = { s with
    mem := m
    deviceCalls := .memWrite s.sp (loByte v) :: .memWrite (s.sp + 1) (hiByte v) ::
      (s.wordReads s.sp ++ s.deviceCalls) } := by
  rw [State.exSp, State.afterRead16_frame]
  exact ⟨_, rfl⟩

/-- An outcome of EX (SP),HL, where `w` is the word read at SP (R233). -/
theorem State.exchanges_hl_of_exSp {o : Out} {s : State} {w : Word} {n : Nat}
    (ho : o = .next ((((s.exSp s.hl).setHl w).setWz w).tick n)) (hr : w.toNat = s.wordAt s.sp)
    (hw : s.mem.wf = true) :
    ∃ t, o = .next t ∧ s.storesWord t s.sp s.hl ∧ t.hl.toNat = s.wordAt s.sp ∧
      t = { s with mem := t.mem, hl := t.hl, wz := t.hl, ticks := s.ticks + n,
                   deviceCalls := .memWrite s.sp (loByte s.hl) :: .memWrite (s.sp + 1) (hiByte s.hl) ::
                     (s.wordReads s.sp ++ s.deviceCalls) } := by
  have hs := s.storesWord_exSp s.hl hw
  obtain ⟨m, hm⟩ := s.exSp_frame s.hl
  rw [hm] at ho hs
  exact ⟨_, ho, hs, hr, rfl⟩

/-- An outcome of EX (SP),X, where `w` is the word read at SP (R233). -/
theorem State.exchanges_idx_of_exSp {o : Out} {s : State} {x : Idx} {w : Word} {n : Nat}
    (ho : o = .next ((((s.exSp (s.idx x)).setIdx x w).setWz w).tick n)) (hr : w.toNat = s.wordAt s.sp)
    (hw : s.mem.wf = true) :
    ∃ t, o = .next t ∧ s.storesWord t s.sp (s.idx x) ∧ (t.idx x).toNat = s.wordAt s.sp ∧
      (∀ y, y ≠ x → t.idx y = s.idx y) ∧
      t = { s with mem := t.mem, ix := t.ix, iy := t.iy, wz := t.idx x, ticks := s.ticks + n,
                   deviceCalls := .memWrite s.sp (loByte (s.idx x)) :: .memWrite (s.sp + 1) (hiByte (s.idx x)) ::
                     (s.wordReads s.sp ++ s.deviceCalls) } := by
  have hs := s.storesWord_exSp (s.idx x) hw
  obtain ⟨m, hm⟩ := s.exSp_frame (s.idx x)
  rw [hm] at ho hs
  refine ⟨_, ho, State.storesWord_congr (State.setIdx_read _ x w) (State.setIdx_mem _ x w) hs, ?_, fun y hy => ?_, ?_⟩
  · exact (congrArg BitVec.toNat ((State.idx_setIdx _ x x w).trans (if_pos rfl))).trans hr
  · exact (State.idx_setIdx _ x y w).trans (if_neg hy)
  · cases x <;> rfl

/-- Settles O22: the six plain exchanges are their pair swaps; EX (SP) stores one word and loads the word it read. -/
theorem exchangesSwapPairs : Obligations.ExchangesSwapPairs := by
  intro s x
  refine ⟨fun i hi => ?_, fun i hi => ?_, fun i hi => ?_, fun hw =>
    ⟨State.exchanges_hl_of_exSp rfl s.toNat_stackTop hw, State.exchanges_idx_of_exSp rfl s.toNat_stackTop hw⟩⟩ <;>
  · simp only [List.mem_cons, List.not_mem_nil, or_false] at hi
    obtain rfl | rfl := hi <;> rfl

/-! ### The repeat step -/

/-- The repeat step moves PC back to the ED byte, sets WZ after it and takes 5 ticks more (R235). -/
theorem State.repeatWhile_eq_of_iff {again : State → Bool} {p : Prop} [Decidable p] (h : again s = true ↔ p) :
    s.repeatWhile again = { s with
      pc := if p then s.pc - 2 else s.pc, wz := if p then s.pc - 1 else s.wz
      ticks := s.ticks + if p then 13 else 8 } := by
  have hpc : s.pc - 2 + 1 = s.pc - 1 := by bv_omega
  by_cases hp : p
  · simp only [State.repeatWhile, if_pos (h.2 hp), if_pos hp, hpc]
    rfl
  · simp only [State.repeatWhile, if_neg (mt h.1 hp), if_neg hp]
    rfl

/-- BC is not 0 after its decrement exactly where it was not 1 before. -/
theorem Word.sub_one_bne_zero (w : Word) : (w - 1 != 0) = decide (w ≠ 1) := by
  rw [Bool.eq_iff_iff, bne_iff_ne, decide_eq_true_eq]
  bv_omega

/-! ### Block transfers -/

/-- A store after a byte was read changes what it changes without the read: reading the default RAM leaves it (R66). -/
theorem State.storesByte_of_afterRead {s t : State} {a b : Word} {v : Byte} (h : (s.afterRead b).storesByte t a v) :
    s.storesByte t a v := by
  unfold State.storesByte at h ⊢
  rw [State.afterRead_cfg] at h
  split
  · rename_i hr
    simpa only [hr, State.read_afterRead hr] using h
  · rename_i hr
    simpa only [hr, State.afterRead_mem] using h

/-- The flags of a block transfer (R234). -/
theorem blockLoadFlags_spec (v a f : Byte) (b : Bool) :
    (fS (blockLoadFlags v a f b) = fS f ∧ fZ (blockLoadFlags v a f b) = fZ f ∧ fC (blockLoadFlags v a f b) = fC f) ∧
    fH (blockLoadFlags v a f b) = false ∧ fN (blockLoadFlags v a f b) = false ∧ fPV (blockLoadFlags v a f b) = b ∧
    fY (blockLoadFlags v a f b) = (v + a).getLsbD 1 ∧ fX (blockLoadFlags v a f b) = (v + a).getLsbD 3 :=
  ⟨⟨fS_flagByte .., fZ_flagByte .., fC_flagByte ..⟩, fH_flagByte .., fN_flagByte .., fPV_flagByte .., fY_flagByte ..,
    fX_flagByte ..⟩

/-- Settles O23: each form is one block transfer and the repeat step, which only LDIR and LDDR take. -/
theorem blockTransfersMoveOneByte : Obligations.BlockTransfersMoveOneByte := by
  intro s hw e he
  have ho : exec e.1 s = .next ((s.blockLoad e.2.1).repeatWhile fun t => e.2.2 && t.bc != 0) := by
    simp only [List.mem_cons, List.not_mem_nil, or_false] at he
    obtain rfl | rfl | rfl | rfl := he <;> rfl
  have hagain : (e.2.2 && s.bc - 1 != 0) = true ↔ e.2.2 = true ∧ s.bc ≠ 1 := by
    rw [Word.sub_one_bne_zero, Bool.and_eq_true, decide_eq_true_eq]
  rw [State.repeatWhile_eq_of_iff (s := s.blockLoad e.2.1) hagain] at ho
  have hf : (s.blockLoad e.2.1).f = blockLoadFlags (s.read s.hl) s.a s.f (s.bc - 1 != 0) := State.f_setF _ _
  obtain ⟨hszc, hh, hn, hpv, hy, hx⟩ := blockLoadFlags_spec (s.read s.hl) s.a s.f (s.bc - 1 != 0)
  rw [← hf] at hszc hh hn hpv hy hx
  have hstore : s.storesByte ((s.afterRead s.hl).write s.de (s.read s.hl)) s.de (s.read s.hl) :=
    State.storesByte_of_afterRead (State.storesByte_write _ _ _ hw)
  exact ⟨_, ho, State.storesByte_congr (fun _ => rfl) rfl hstore, hszc, hh, hn,
    hpv.trans (Word.sub_one_bne_zero s.bc), hy, hx, State.a_setF _ _, rfl⟩

/-! ### Block searches -/

/-- The flags of a block search: S, Z and H are those of the comparison of `a` with `v`, Y and X those of the difference
less H (R238). -/
theorem blockCompareFlags_spec (v a f : Byte) (b : Bool) :
    fZ (blockCompareFlags v a f b) = decide (v = a) ∧ fS (blockCompareFlags v a f b) = (a - v).getLsbD 7 ∧
    fH (blockCompareFlags v a f b) = decide (a.toNat % 16 < v.toNat % 16) ∧ fPV (blockCompareFlags v a f b) = b ∧
    fN (blockCompareFlags v a f b) = true ∧ fC (blockCompareFlags v a f b) = fC f ∧
    fY (blockCompareFlags v a f b) = (a - v - if fH (blockCompareFlags v a f b) then 1 else 0).getLsbD 1 ∧
    fX (blockCompareFlags v a f b) = (a - v - if fH (blockCompareFlags v a f b) then 1 else 0).getLsbD 3 := by
  obtain ⟨hz, -, hs, -, -, hh, -, -⟩ := cp8_spec a v
  simp only [cp8, fZ_flagByte, fS_flagByte, fH_flagByte] at hz hs hh
  have hborrow : ∀ c : Bool, BitVec.setWidth 8 (BitVec.ofBool c) = if c then 1 else 0 := by decide
  simp only [blockCompareFlags, fS_flagByte, fZ_flagByte, fY_flagByte, fH_flagByte, fX_flagByte, fPV_flagByte,
    fN_flagByte, fC_flagByte, fst_sub8, hborrow]
  exact ⟨hz.trans (decide_eq_decide.2 eq_comm), hs, hh, trivial, trivial, trivial, trivial, trivial⟩

/-- Settles O24: each form is one block comparison and the repeat step, which only CPIR and CPDR take. -/
theorem blockSearchesCompareOneByte : Obligations.BlockSearchesCompareOneByte := by
  intro s e he
  have ho : exec e.1 s = .next ((s.blockCompare e.2.1).repeatWhile fun t => e.2.2 && (t.bc != 0 && !fZ t.f)) := by
    simp only [List.mem_cons, List.not_mem_nil, or_false] at he
    obtain rfl | rfl | rfl | rfl := he <;> rfl
  have hf : (s.blockCompare e.2.1).f = blockCompareFlags (s.read s.hl) s.a s.f (s.bc - 1 != 0) := State.f_setF _ _
  obtain ⟨hz, hs, hh, hpv, hn, hc, hy, hx⟩ := blockCompareFlags_spec (s.read s.hl) s.a s.f (s.bc - 1 != 0)
  rw [← hf] at hz hs hh hpv hn hc hy hx
  have hagain : (e.2.2 && (s.bc - 1 != 0 && !fZ (s.blockCompare e.2.1).f)) = true ↔
      e.2.2 = true ∧ s.bc ≠ 1 ∧ s.read s.hl ≠ s.a := by
    rw [hz, Word.sub_one_bne_zero]
    simp only [Bool.and_eq_true, decide_eq_true_eq, Bool.not_eq_true', decide_eq_false_iff_not, ne_eq]
  rw [State.repeatWhile_eq_of_iff (s := s.blockCompare e.2.1) hagain] at ho
  exact ⟨_, ho, hz, hs, hh, hpv.trans (Word.sub_one_bne_zero s.bc), hn, hc, hy, hx, State.a_setF _ _, rfl⟩

end Sys2Proof.Machine
end

section
/-! CPL, NEG, CCF and SCF (R291 to R294): the operations on A and on the carry that have no operand. -/

namespace Sys2Proof.Machine

variable {o : Out} {s : State}

/-- CPL complements A, bit by bit and in integer arithmetic; S, Z, PV and C are those before it (R291). -/
theorem cpl8_spec (a f : Byte) :
    (cpl8 a f).1.toNat = 255 - a.toNat ∧ keepsSZPC f (cpl8 a f).2 ∧ fH (cpl8 a f).2 = true ∧
    fN (cpl8 a f).2 = true ∧ fY (cpl8 a f).2 = !a.getLsbD 5 ∧ fX (cpl8 a f).2 = !a.getLsbD 3 := by
  have hnot : (cpl8 a f).1 = ~~~a := BitVec.xor_allOnes
  have hbit {k : Nat} (hk : k < 8) : (cpl8 a f).1.getLsbD k = !a.getLsbD k := by
    rw [hnot, BitVec.getLsbD_not, decide_eq_true hk, Bool.true_and]
  exact ⟨hnot ▸ BitVec.toNat_not, ⟨fS_flagByte .., fZ_flagByte .., fPV_flagByte .., fC_flagByte ..⟩, fH_flagByte ..,
    fN_flagByte .., (fY_flagByte ..).trans (hbit (by decide)), (fX_flagByte ..).trans (hbit (by decide))⟩

/-- NEG is SUB8 of A from 0: its only signed overflow is that of -128 (R292). -/
theorem sub8_zero_spec (a : Byte) :
    (sub8 0 a false).1 = -a ∧ flagsOf (sub8 0 a false).2 (sub8 0 a false).1 ∧
    fH (sub8 0 a false).2 = decide (a.toNat % 16 ≠ 0) ∧ fPV (sub8 0 a false).2 = decide (a.toNat = 128) ∧
    fN (sub8 0 a false).2 = true ∧ fC (sub8 0 a false).2 = decide (a.toNat ≠ 0) := by
  obtain ⟨-, hsz, hh, hpv, hn, hc⟩ := sub8_spec 0 a false
  simp only [BitVec.ofNat_eq_ofNat, BitVec.toNat_zero, BitVec.toInt_zero, Bool.toNat_false] at hh hpv hc
  have hlt := a.isLt
  refine ⟨(fst_sub8 0 a).trans (BitVec.zero_sub a), hsz, hh.trans ?_, hpv.trans ?_, hn, hc.trans ?_⟩ <;>
    rw [decide_eq_decide]
  · omega
  · rw [BitVec.toInt_eq_toNat_cond]
    split <;> omega
  · omega

/-- An outcome that writes C as `c` and H as `h`: N is cleared, Y and X come from A (R293, R294). -/
theorem State.writes_carry_of_setF {h c : Bool}
    (ho : o = .next (s.setF (flagByte (fS s.f) (fZ s.f) (s.a.getLsbD 5) h (s.a.getLsbD 3) (fPV s.f) false c))) :
    ∃ t, o = .next t ∧ t.a = s.a ∧ fS t.f = fS s.f ∧ fZ t.f = fZ s.f ∧ fPV t.f = fPV s.f ∧
      fY t.f = s.a.getLsbD 5 ∧ fX t.f = s.a.getLsbD 3 ∧ fH t.f = h ∧ fN t.f = false ∧ fC t.f = c ∧
      t = { s with af := t.af } := by
  refine ⟨_, ho, s.a_setF _, ?_⟩
  rw [State.f_setF]
  exact ⟨fS_flagByte .., fZ_flagByte .., fPV_flagByte .., fY_flagByte .., fX_flagByte .., fH_flagByte ..,
    fN_flagByte .., fC_flagByte .., rfl⟩

/-- Settles O33: CPL and NEG are one operation on A and F, CCF and SCF one write of C and H. -/
theorem accumulatorAndCarryOperations : Obligations.AccumulatorAndCarryOperations := by
  intro s x y
  refine ⟨fun i hi => ?cpl, ?neg, fun e he => ?carry⟩
  case cpl =>
    have ho : exec i s = .next (s.setAF (cpl8 s.a s.f)) := by
      simp only [List.mem_cons, List.not_mem_nil, or_false] at hi
      obtain rfl | rfl := hi <;> rfl
    obtain ⟨hv, hk, hh, hn, hy, hx⟩ := cpl8_spec s.a s.f
    rw [← s.a_setAF (cpl8 s.a s.f)] at hv
    rw [← s.f_setAF (cpl8 s.a s.f)] at hk hh hn hy hx
    exact ⟨_, ho, hv, hk, hh, hn, hy, hx, rfl⟩
  case neg =>
    obtain ⟨hv, hsz, hh, hpv, hn, hc⟩ := sub8_zero_spec s.a
    rw [← s.a_setAF (sub8 0 s.a false)] at hv hsz
    rw [← s.f_setAF (sub8 0 s.a false)] at hsz hh hpv hn hc
    exact ⟨_, rfl, hv, hsz, hh, hpv, hn, hc, rfl⟩
  case carry =>
    simp only [List.mem_cons, List.not_mem_nil, or_false] at he
    obtain rfl | rfl | rfl | rfl := he <;> exact State.writes_carry_of_setF rfl

end Sys2Proof.Machine
end

section
/-! INC and DEC of a pair or an index register (R323, R324): a write of one pair, as the 16-bit loads of immediates are. -/

namespace Sys2Proof.Machine

/-- Settles O37: every form is one write of a pair, and DEC adds -1 mod 2^16. -/
theorem stepsOfPairs : Obligations.StepsOfPairs := by
  intro s x p
  have hdec (w : Word) : w - 1 = w + -1 := BitVec.sub_eq_add_neg w 1
  refine ⟨fun e he => ?pair, fun e he => ?index⟩ <;> simp only [List.mem_cons, List.not_mem_nil, or_false] at he
  case pair =>
    have ho : exec e.1 s = .next ((s.setRp p (s.rp p + e.2)).tick 2) := by
      obtain rfl | rfl | rfl | rfl := he
      case inl | inr.inl => rfl
      case inr.inr.inl | inr.inr.inr => exact congrArg (fun v => (.next ((s.setRp p v).tick 2) : Out)) (hdec (s.rp p))
    exact State.loads_pair_of_setRp ho
  case index =>
    have ho : exec e.1 s = .next ((s.setIdx x (s.idx x + e.2)).tick 2) := by
      obtain rfl | rfl := he
      · rfl
      · exact congrArg (fun v => (.next ((s.setIdx x v).tick 2) : Out)) (hdec (s.idx x))
    exact State.loads_idx_of_setIdx ho

end Sys2Proof.Machine
end

section
/-! SET, RES, RLD and RRD (R353, R354, R358, R359). SET and RES are one operation `g(v, F)` that keeps F, written back in
the forms of R344; RLD and RRD store one byte of two digits and leave the third in A. -/

namespace Sys2Proof.Machine

variable {o : Out} {s : State} {b : BitVec 3} {set : Bool} {a : Word} {c : Nat}

/-! ### SET and RES -/

/-- SET's operation or RES's, as `set` says (R358, R359). -/
def bitOp (b : BitVec 3) : Bool → Byte → Byte → Byte × Byte
  | true => setOp b
  | false => resOp b

theorem snd_bitOp (b : BitVec 3) (set : Bool) (v f : Byte) : (bitOp b set v f).2 = f := by
  cases set <;> rfl

/-- SET and RES write bit `b` and leave every other. -/
theorem getLsbD_fst_bitOp (b : BitVec 3) (set : Bool) (v f : Byte) {j : Nat} (hj : j < 8) :
    (bitOp b set v f).1.getLsbD j = if j = b.toNat then set else v.getLsbD j := by
  have hmask : (1#8 <<< b.toNat).getLsbD j = decide (j = b.toNat) := by
    rw [← BitVec.twoPow_eq, BitVec.getLsbD_twoPow, decide_eq_true b.isLt, Bool.true_and, decide_eq_decide, eq_comm]
  cases set
  case false =>
    rw [bitOp, resOp, BitVec.getLsbD_and, BitVec.getLsbD_not, hmask, decide_eq_true hj, Bool.true_and]
    by_cases hb : j = b.toNat <;> simp [hb]
  case true =>
    rw [bitOp, setOp, BitVec.getLsbD_or, hmask]
    by_cases hb : j = b.toNat <;> simp [hb]

/-- A and F are all of AF (R21). -/
theorem State.af_eq_of_a_of_f {t : State} (ha : t.a = s.a) (hf : t.f = s.f) : t.af = s.af :=
  calc t.af
    _ = joinBytes t.a t.f := (joinBytes_hi_lo t.af).symm
    _ = joinBytes s.a s.f := by rw [ha, hf]
    _ = s.af := joinBytes_hi_lo s.af

/-- An outcome that writes a bit of the byte at `a` back leaves AF. -/
theorem State.writes_bit_of_modMem (ho : o = .next ((s.modMem a (bitOp b set)).tick c)) (hw : s.mem.wf = true) :
    ∃ t w, o = .next t ∧ (∀ j < 8, w.getLsbD j = if j = b.toNat then set else (s.read a).getLsbD j) ∧
      s.storesByte t a w ∧
      t = { s with mem := t.mem, ticks := s.ticks + c,
                   deviceCalls := .memWrite a w :: .memRead a (s.read a) :: s.deviceCalls } := by
  obtain ⟨t, ho, hv, hf, ha, ht⟩ := State.modifies_of_modMem ho hw
  rw [State.af_eq_of_a_of_f ha (hf.trans (snd_bitOp ..))] at ht
  exact ⟨t, _, ho, fun _ => getLsbD_fst_bitOp b set _ _, hv, ht⟩

/-- Settles O41: every form writes back one byte with the bit written. -/
theorem bitWrites : Obligations.BitWrites := by
  intro s x r d b
  refine ⟨fun e he => ?register, fun hw => ⟨fun e he => ?memory, fun e he => ?copy⟩⟩ <;>
    simp only [List.mem_cons, List.not_mem_nil, or_false] at he
  case register =>
    have ho : exec e.1 s = .next ((s.modR8 r (bitOp b e.2)).tick 0) := by
      obtain rfl | rfl := he <;> rfl
    obtain ⟨t, ho, hv, hf, ht⟩ := State.modifies_of_modR8 ho
    refine ⟨t, ho, fun j hj => ?_, fun q hq => (hv q).trans (if_neg hq), hf.trans (snd_bitOp ..), ht⟩
    rw [hv r, if_pos rfl, getLsbD_fst_bitOp b e.2 _ _ hj]
  case memory =>
    have ho : exec e.1 s = .next (((s.setWz e.2.2.2.1).modMem e.2.2.1 (bitOp b e.2.1)).tick e.2.2.2.2) := by
      obtain rfl | rfl | rfl | rfl := he <;> rfl
    exact State.writes_bit_of_modMem ho hw
  case copy =>
    have ho : exec e.1 s = .next ((s.modXdCopy x d r (bitOp b e.2)).tick 15) := by
      obtain rfl | rfl := he <;> rfl
    obtain ⟨t, ho, hv, hf, hq, ht⟩ := State.modifies_of_modXdCopy ho hw
    exact ⟨t, _, ho, fun _ => getLsbD_fst_bitOp b e.2 _ _, hv, hq, hf.trans (snd_bitOp ..), ht⟩

/-! ### RLD and RRD -/

/-- A byte of two digits in integer arithmetic. -/
theorem toNat_nibbles (h l : BitVec 4) : (h ++ l : Byte).toNat = h.toNat * 16 + l.toNat := by
  rw [BitVec.toNat_append, ← Nat.shiftLeft_add_eq_or_of_lt l.isLt, Nat.shiftLeft_eq]

theorem toNat_loNibble (v : Byte) : (loNibble v).toNat = v.toNat % 16 := by
  rw [loNibble, BitVec.extractLsb'_toNat, Nat.shiftRight_zero]

theorem toNat_hiNibble (v : Byte) : (hiNibble v).toNat = v.toNat / 16 := by
  rw [hiNibble, BitVec.extractLsb'_toNat, Nat.shiftRight_eq_div_pow]
  have := v.isLt
  omega

/-- An outcome that reads the byte at HL, writes `v` there and HL + 1 to WZ, and gives A and F the values `w`, the flags
being those of the new A (R353, R354). -/
theorem State.rotates_digits {v : Byte} {w : Byte × Byte} {m n : Nat}
    (ho : o = .next (((((s.afterRead s.hl).write s.hl v).setWz (s.hl + 1)).setAF w).tick c))
    (hf : w.2 = szxypWith w.1 false false (fC s.f)) (hm : v.toNat = m) (hn : w.1.toNat = n) (hw : s.mem.wf = true) :
    ∃ t, o = .next t ∧ s.storesByte t s.hl (BitVec.ofNat 8 m) ∧ t.a.toNat = n ∧ flagsOf t.f t.a ∧
      fPV t.f = evenOnes t.a ∧ fH t.f = false ∧ fN t.f = false ∧ fC t.f = fC s.f ∧
      t = { s with mem := t.mem, af := t.af, wz := s.hl + 1, ticks := s.ticks + c,
                   deviceCalls := .memWrite s.hl (BitVec.ofNat 8 m) :: .memRead s.hl (s.read s.hl) ::
                     s.deviceCalls } := by
  obtain rfl : BitVec.ofNat 8 m = v := by rw [← hm, BitVec.ofNat_toNat, BitVec.setWidth_eq]
  let u := ((s.afterRead s.hl).write s.hl (BitVec.ofNat 8 m)).setWz (s.hl + 1)
  have hsz := flagsOf_szxyWith w.1 false (parity w.1) false (fC s.f)
  obtain ⟨hh, hpv, hneg, hc⟩ := given_flags_szxyWith w.1 false (parity w.1) false (fC s.f)
  rw [szxypWith] at hf
  rw [← hf] at hsz hh hpv hneg hc
  rw [parity_eq] at hpv
  rw [← u.a_setAF w] at hn hsz hpv
  rw [← u.f_setAF w] at hsz hh hpv hneg hc
  have hstore := s.storesByte_write_afterRead s.hl (BitVec.ofNat 8 m) hw
  exact ⟨_, ho, State.storesByte_congr (fun _ => rfl) rfl hstore, hn, hsz, hpv, hh, hneg, hc, rfl⟩

/-- Settles O42: each stores two of the three digits and leaves the third in A. -/
theorem digitRotates : Obligations.DigitRotates := by
  intro s hw e he
  simp only [List.mem_cons, List.not_mem_nil, or_false] at he
  obtain rfl | rfl := he
  · exact State.rotates_digits rfl rfl (by rw [toNat_nibbles, toNat_loNibble, toNat_loNibble])
      (by rw [toNat_nibbles, toNat_hiNibble, toNat_hiNibble]) hw
  · exact State.rotates_digits rfl rfl (by rw [toNat_nibbles, toNat_loNibble, toNat_hiNibble])
      (by rw [toNat_nibbles, toNat_hiNibble, toNat_loNibble]) hw

end Sys2Proof.Machine
end

section
/-! Entries and returns: a call, a restart and an NMI are one push of PC and a jump, and the return after it pops what was
pushed. -/

namespace Sys2Proof.Machine

/-! ### Entries -/

/-- CALL and RST, plain or after DD or FD, push PC and jump (R386, R392). -/
theorem exec_call_pushes_pc {s : State} {x : Idx} {nn : Word} {p : BitVec 3} {i : Instr}
    (hi : i ∈ [Instr.call nn, .callX x nn, .rst p, .rstX x p]) :
    ∃ target n, exec i s = .next (((s.push16 s.pc).jump target).tick n) := by
  simp only [List.mem_cons, List.not_mem_nil, or_false] at hi
  obtain rfl | rfl | rfl | rfl := hi <;> exact ⟨_, _, rfl⟩

/-- The state in which `AcceptNMI` pushes PC: NMI cleared under `NMI_AUTOCLEAR`, HALTED left, IFF1 saved in IFF2 and
cleared, and R refreshed under `R_INC_ON_ACK` (R491). -/
def State.beforeNmiPush (s : State) : State :=
  { s with nmi := s.nmi && !s.cfg.nmiAutoclear, halted := false, pc := if s.halted then s.pc + 1 else s.pc,
           iff2 := s.iff1, iff1 := false, r := if s.cfg.rIncOnAck then refreshNext s.r else s.r }

/-- `AcceptNMI` ends in a push of PC and a jump to 0x0066 (R491). -/
theorem State.acceptNmi_eq (s : State) :
    s.acceptNmi = ((s.beforeNmiPush.push16 s.beforeNmiPush.pc).jump 0x0066).tick 11 := by
  have hn (b : Bool) : (if b then { s with nmi := false } else s) = { s with nmi := s.nmi && !b } := by
    cases b <;> simp
  have hr (u : State) (b : Bool) : (if b then u.refresh else u) =
      { u with r := if b then refreshNext u.r else u.r } := by
    cases b <;> rfl
  simp only [State.acceptNmi, State.enterHandler, hn, hr, State.leaveHalt_eq, State.beforeNmiPush]

/-! ### Returns -/

/-- RET, RETI and RETN, plain or after DD or FD, pop PC and jump there; RETI and RETN copy IFF2 to IFF1 (R388, R390,
R391). -/
theorem exec_return_pops_pc {s : State} {x : Idx} {y : BitVec 3} {j : Instr}
    (hj : j ∈ [Instr.ret, .retX x, .reti, .retn y]) :
    ∃ b n, exec j s = .next ({ s.popped.jump s.stackTop with iff1 := b }.tick n) ∧
      (j = .reti ∨ j = .retn y → b = s.iff2) := by
  simp only [List.mem_cons, List.not_mem_nil, or_false] at hj
  obtain rfl | rfl | rfl | rfl := hj
  · exact ⟨s.iff1, _, rfl, nofun⟩
  · exact ⟨s.iff1, _, rfl, nofun⟩
  · exact ⟨s.iff2, _, rfl, fun _ => rfl⟩
  · exact ⟨s.iff2, _, rfl, fun _ => rfl⟩

/-- With the default RAM, a return after a push of PC and a jump comes back to that PC and SP. -/
theorem exec_return_after_push_pc {s : State} {x : Idx} {y : BitVec 3} {j : Instr} (target : Word) (n : Nat)
    (hr : s.cfg.memDevice = .ram) (hw : s.mem.wf = true) (hj : j ∈ [Instr.ret, .retX x, .reti, .retn y]) :
    ∃ u, exec j (((s.push16 s.pc).jump target).tick n) = .next u ∧ u.pc = s.pc ∧ u.sp = s.sp ∧
      (∀ q, u.r8 q = s.r8 q) ∧ (j = .reti ∨ j = .retn y → u.iff1 = s.iff2) := by
  obtain ⟨b, m, hu, hb⟩ := exec_return_pops_pc (s := ((s.push16 s.pc).jump target).tick n) hj
  rw [State.tick_iff2, State.jump_iff2, State.push16_iff2] at hb
  have hpc := s.stackTop_push16 s.pc hr hw
  refine ⟨_, hu, hpc, BitVec.sub_add_cancel s.sp 2, fun q => ?_, hb⟩
  cases q <;> simp [State.r8]

/-- Settles O46: every entry pushes the PC to come back to, and every return pops it; an NMI has saved IFF1 in IFF2. -/
theorem returnsUndoEntries : Obligations.ReturnsUndoEntries := by
  intro s x x2 nn p y hr hw j hj
  refine ⟨fun i hi => ?_, fun hs => ?_⟩
  · obtain ⟨target, n, ho⟩ := exec_call_pushes_pc hi
    obtain ⟨u, hu, hpc, hsp, hq, -⟩ := exec_return_after_push_pc target n hr hw hj
    exact ⟨_, u, ho, hu, hpc, hsp, hq⟩
  · obtain ⟨u, hu, hpc, hsp, -, hiff⟩ := exec_return_after_push_pc (s := s.beforeNmiPush) 0x0066 11 hr hw hj
    exact ⟨_, u, (step_of_service hs).trans (congrArg _ s.acceptNmi_eq), hu, hpc, hsp, hiff⟩

end Sys2Proof.Machine
end

section
/-! Words in integer arithmetic: the halves of a pair, masks, and joining words that have no bit in common. -/

namespace Sys2Proof.Machine

/-- The low byte of a pair in integer arithmetic. -/
theorem toNat_loByte (w : Word) : (loByte w).toNat = w.toNat % 256 := by
  rw [loByte, BitVec.extractLsb'_toNat, Nat.shiftRight_zero]

/-- The high byte of a pair in integer arithmetic. -/
theorem toNat_hiByte (w : Word) : (hiByte w).toNat = w.toNat / 256 := by
  rw [hiByte, BitVec.extractLsb'_toNat, Nat.shiftRight_eq_div_pow]
  have := w.isLt
  omega

theorem toNat_zext16 (v : Byte) : (zext16 v).toNat = v.toNat := BitVec.toNat_setWidth_of_le (by decide)

/-- Masking a pair masks its halves. -/
theorem and_joinBytes (h l a b : Byte) : joinBytes h l &&& joinBytes a b = joinBytes (h &&& a) (l &&& b) :=
  BitVec.and_append

/-- A word has no bit in common with what its mask leaves out. -/
theorem Word.and_mask_disjoint (w : Word) {mask v : Word} (h : mask &&& v = 0) : w &&& mask &&& v = 0 := by
  rw [BitVec.and_assoc, h]
  exact BitVec.and_zero

/-- Words without a common bit are joined as they are added. -/
theorem Word.toNat_or_of_disjoint {v w : Word} (h : v &&& w = 0) : (v ||| w).toNat = v.toNat + w.toNat := by
  rw [← BitVec.add_eq_or_of_and_eq_zero v w h, BitVec.toNat_add_of_and_eq_zero h]

end Sys2Proof.Machine
end

section
/-! Port outputs and the block port transfers (R410, R414 to R424, R457). As with LDI, a block transfer is one step and
the repeat step; INI and its like are those that never take it. -/

namespace Sys2Proof.Machine

/-! ### Port outputs -/

/-- Settles O48: each form is one port write, with WZ or HL after it. -/
theorem portOutputs : Obligations.PortOutputs := by
  intro s x r n
  refine ⟨fun i hi => ?_, fun e he => ?_, rfl⟩
  · simp only [List.mem_cons, List.not_mem_nil, or_false] at hi
    obtain rfl | rfl := hi <;> rfl
  · simp only [List.mem_cons, List.not_mem_nil, or_false] at he
    obtain rfl | rfl := he <;> rfl

/-! ### Block port transfers -/

/-- B is not 0 after its decrement exactly where it was not 1 before. -/
theorem Byte.sub_one_bne_zero (b : Byte) : (b - 1 != 0) = decide (b ≠ 1) := by
  rw [Bool.eq_iff_iff, bne_iff_ne, decide_eq_true_eq]
  bv_omega

/-- The repeating forms run again while B, stepped from `b`, is not 0 (R415, R422). -/
theorem repeats_iff_b_ne_one {rep : Bool} {b : Byte} {w : Word} (hw : hiByte w = b - 1) :
    (rep && hiByte w != 0) = true ↔ rep = true ∧ b ≠ 1 := by
  rw [hw, Byte.sub_one_bne_zero, Bool.and_eq_true, decide_eq_true_eq]

/-- What a store changed depends on the configuration and the memory before it only. -/
theorem State.storesByte_of_base {s u t : State} {a : Word} {v : Byte} (hc : u.cfg = s.cfg) (hm : u.mem = s.mem)
    (h : u.storesByte t a v) : s.storesByte t a v := by
  unfold State.storesByte at h ⊢
  rw [hc] at h
  split
  · rename_i hr
    have hread (b : Word) : u.read b = s.read b := by
      rw [State.read_ram (hc ▸ hr), State.read_ram hr, hm]
    simpa only [hr, hread] using h
  · rename_i hr
    simpa only [hr, hm] using h

/-- Settles O49: each form is one block transfer and the repeat step, which only the repeating forms take. -/
theorem blockPortTransfersMoveOneByte : Obligations.BlockPortTransfersMoveOneByte := by
  intro s
  have hb : hiByte (joinBytes (s.b - 1) s.c) = s.b - 1 := hiByte_joinBytes ..
  refine ⟨fun hw e he => ?input, fun e he => ?output⟩
  case input =>
    obtain ⟨ho, hstep⟩ : exec e.1 s = .next ((s.blockIn e.2.1).repeatWhile fun t => e.2.2.2 && t.b != 0) ∧
        loByte e.2.1 = e.2.2.1 := by
      simp only [List.mem_cons, List.not_mem_nil, or_false] at he
      obtain rfl | rfl | rfl | rfl := he <;> exact ⟨rfl, rfl⟩
    have hf : (s.blockIn e.2.1).f =
        bioFlags (s.portIn s.bc) (s.b - 1) ((s.portIn s.bc).toNat + (s.c + loByte e.2.1).toNat) := State.f_setF _ _
    have hflags := blockIoFlagsTo_bioFlags (s.portIn s.bc) (s.b - 1)
      ((s.portIn s.bc).toNat + (s.c + loByte e.2.1).toNat)
    rw [← hf, hstep] at hflags
    rw [State.repeatWhile_eq_of_iff (s := s.blockIn e.2.1) (repeats_iff_b_ne_one hb)] at ho
    have hstore := State.storesByte_of_base (s := s) (u := s.portRead s.bc) rfl rfl
      (State.storesByte_write _ s.hl (s.portIn s.bc) hw)
    exact ⟨_, ho, State.storesByte_congr (fun _ => rfl) rfl hstore, State.a_setF _ _, hflags, rfl⟩
  case output =>
    have ho : exec e.1 s = .next ((s.blockOut e.2.1).repeatWhile fun t => e.2.2 && t.b != 0) := by
      simp only [List.mem_cons, List.not_mem_nil, or_false] at he
      obtain rfl | rfl | rfl | rfl := he <;> rfl
    have hf : (s.blockOut e.2.1).f =
        bioFlags (s.read s.hl) (s.b - 1) ((s.read s.hl).toNat + (loByte (s.hl + e.2.1)).toNat) := State.f_setF _ _
    rw [State.repeatWhile_eq_of_iff (s := s.blockOut e.2.1) (repeats_iff_b_ne_one hb)] at ho
    exact ⟨_, ho, State.a_setF _ _, hf ▸ blockIoFlagsTo_bioFlags .., rfl⟩

end Sys2Proof.Machine
end

section
/-! The Z80N block transfers (R464 to R469): one step, which skips a byte equal to A, and a repeat step that leaves
WZ. -/

namespace Sys2Proof.Machine

/-- The repeat step of the Z80N transfers moves PC back to the ED byte and takes 5 ticks more (R467). -/
theorem State.repeatKeepWz_eq_of_iff {again : State → Bool} {p : Prop} [Decidable p] (h : again s = true ↔ p) :
    s.repeatKeepWz again = { s with
      pc := if p then s.pc - 2 else s.pc, ticks := s.ticks + if p then 13 else 8 } := by
  by_cases hp : p
  · simp only [State.repeatKeepWz, if_pos (h.2 hp), if_pos hp]
    rfl
  · simp only [State.repeatKeepWz, if_neg (mt h.1 hp), if_neg hp]
    rfl

/-- Writing unless the byte is A, as a whole state (R464). -/
theorem State.writeUnlessA_eq (s : State) (v : Byte) :
    s.writeUnlessA v = { s with
      mem := if v = s.a then s.mem else s.memWith s.de v
      deviceCalls := (if v = s.a then [] else [.memWrite s.de v]) ++ s.deviceCalls } := by
  by_cases hv : v = s.a
  · simp only [State.writeUnlessA, hv, bne_self_eq_false, Bool.false_eq_true, if_false, if_true, List.nil_append]
  · simp only [State.writeUnlessA, bne_iff_ne.2 hv, if_neg hv, if_true]
    rfl

/-- One step of a Z80N transfer: the byte at `a` is stored at DE unless it is A, and HL moves by `d` (R464, R468). -/
def State.transferUnlessA (s : State) (a d : Word) : State :=
  { s with
    mem := if s.read a = s.a then s.mem else s.memWith s.de (s.read a)
    hl := s.hl + d, de := s.de + 1, bc := s.bc - 1
    deviceCalls := (if s.read a = s.a then [] else [.memWrite s.de (s.read a)]) ++
      .memRead a (s.read a) :: s.deviceCalls }

theorem State.blockLoadX_eq (s : State) (d : Word) : s.blockLoadX d = s.transferUnlessA s.hl d := by
  rw [State.blockLoadX, State.writeUnlessA_eq]
  rfl

theorem State.stores_of_transferUnlessA (s : State) (a d : Word) (hw : s.mem.wf = true) :
    if s.read a = s.a then (s.transferUnlessA a d).mem = s.mem
    else s.storesByte (s.transferUnlessA a d) s.de (s.read a) := by
  by_cases ha : s.read a = s.a
  · simp only [State.transferUnlessA, if_pos ha]
  · simp only [State.transferUnlessA, if_neg ha]
    exact State.storesByte_congr (fun _ => rfl) rfl
      (State.storesByte_of_afterRead ((s.afterRead a).storesByte_write s.de (s.read a) hw))

/-- The address of byte E mod 8 of the aligned 8-byte pattern at HL, whose low three bits are clear (R468). -/
theorem pattern_address (hl de : Word) :
    (hl &&& 0xFFF8) ||| zext16 (loByte de &&& 7) = (hl &&& 0xFFF8) + BitVec.ofNat 16 (de.toNat % 8) := by
  have hoffset (e : Byte) :
      (0xFFF8 : Word) &&& zext16 (e &&& 7) = 0 ∧ zext16 (e &&& 7) = BitVec.ofNat 16 (e.toNat % 8) := by
    revert e; decide
  obtain ⟨hdisjoint, hvalue⟩ := hoffset (loByte de)
  rw [← BitVec.add_eq_or_of_and_eq_zero _ _ (Word.and_mask_disjoint hl hdisjoint), hvalue, toNat_loByte,
    Nat.mod_mod_of_dvd _ (by decide)]

theorem State.patternLoad_eq (s : State) :
    s.patternLoad = s.transferUnlessA ((s.hl &&& 0xFFF8) + BitVec.ofNat 16 (s.de.toNat % 8)) 0 := by
  rw [State.patternLoad, pattern_address, State.writeUnlessA_eq, State.transferUnlessA,
    show s.hl + 0 = s.hl from BitVec.add_zero s.hl]
  rfl

/-- Settles O25: each form but LDWS is one transfer and the repeat step, which LDIX and LDDX never take; LDWS is one
store and INC D. -/
theorem transparentTransfersSkipTheAccumulator : Obligations.TransparentTransfersSkipTheAccumulator := by
  intro s hw
  refine ⟨fun e he => ?_, ?_⟩
  · obtain ⟨u, ho, rfl⟩ : ∃ u : State, exec e.1 s = .next (u.repeatKeepWz fun t => e.2.2.2 && t.bc != 0) ∧
        u = s.transferUnlessA e.2.1 e.2.2.1 := by
      simp only [List.mem_cons, List.not_mem_nil, or_false] at he
      obtain rfl | rfl | rfl | rfl | rfl := he
      case inr.inr.inr.inr => exact ⟨s.patternLoad, rfl, s.patternLoad_eq⟩
      all_goals exact ⟨s.blockLoadX _, rfl, s.blockLoadX_eq _⟩
    have hagain : (e.2.2.2 && s.bc - 1 != 0) = true ↔ e.2.2.2 = true ∧ s.bc ≠ 1 := by
      rw [Word.sub_one_bne_zero, Bool.and_eq_true, decide_eq_true_eq]
    rw [State.repeatKeepWz_eq_of_iff (s := s.transferUnlessA e.2.1 e.2.2.1) hagain] at ho
    exact ⟨_, ho, s.stores_of_transferUnlessA e.2.1 e.2.2.1 hw, rfl⟩
  · obtain ⟨hsz, hh, hpv, hn, hc⟩ := stepFlagsTo_inc8 (hiByte s.de) s.f
    have hf : s.ldws.f = (inc8 (hiByte s.de) s.f).2 := State.f_setF _ _
    rw [← hf] at hsz hh hpv hn hc
    have hstore : s.storesByte ((s.afterRead s.hl).write s.de (s.read s.hl)) s.de (s.read s.hl) :=
      State.storesByte_of_afterRead (State.storesByte_write _ _ _ hw)
    exact ⟨_, rfl, State.storesByte_congr (fun _ => rfl) rfl hstore, rfl, rfl, State.a_setF _ _, hsz, hh, hpv, hn, hc,
      rfl⟩

end Sys2Proof.Machine
end

section
/-! The operations of the Z80N subset on A and on a pair (R441, R442, R444 to R455, R462), each in integer
arithmetic. -/

namespace Sys2Proof.Machine

variable {o : Out} {s : State} {v : Byte}

/-! ### A -/

/-- An outcome that writes A keeps F. -/
theorem State.writes_a_of_setA (ho : o = .next ((s.setA v).tick 0)) :
    ∃ t, o = .next t ∧ t.a = v ∧ t.f = s.f ∧ t = { s with af := t.af } :=
  ⟨_, ho, s.a_setA v, s.f_setA v, rfl⟩

theorem getLsbD_bitReverse (v : Byte) : ∀ j < 8, (bitReverse v).getLsbD j = v.getLsbD (7 - j) := by
  revert v; decide

/-- SETAE's mask: bit 7 moved down by the low three bits of the count (R462). -/
theorem toNat_setae (e : Byte) : (0x80#8 >>> (e &&& 7).toNat).toNat = 128 / 2 ^ (e.toNat % 8) := by
  revert e; decide

/-- Settles O50: each is one write of A. -/
theorem extendedAccumulatorOperations : Obligations.ExtendedAccumulatorOperations := by
  intro s
  refine ⟨?swapnib, ?mirror, ?setae⟩
  case swapnib =>
    obtain ⟨t, ho, ha, hf, ht⟩ := State.writes_a_of_setA (s := s) (o := exec .swapnib s) rfl
    refine ⟨t, ho, ?_, hf, ht⟩
    rw [ha, toNat_nibbles, toNat_loNibble, toNat_hiNibble]
  case mirror =>
    obtain ⟨t, ho, ha, hf, ht⟩ := State.writes_a_of_setA (s := s) (o := exec .mirrorA s) rfl
    exact ⟨t, ho, ha ▸ getLsbD_bitReverse s.a, hf, ht⟩
  case setae =>
    obtain ⟨t, ho, ha, hf, ht⟩ := State.writes_a_of_setA (s := s) (o := exec .setae s) rfl
    exact ⟨t, ho, ha ▸ toNat_setae (loByte s.de), hf, ht⟩

/-! ### Pairs -/

theorem State.shiftCount_eq (s : State) : s.shiftCount = s.b.toNat % 32 := by
  rw [State.shiftCount, BitVec.toNat_and]
  exact Nat.and_two_pow_sub_one_eq_mod s.b.toNat 5

theorem State.rotateCount_eq (s : State) : s.rotateCount = s.b.toNat % 16 := by
  rw [State.rotateCount, BitVec.toNat_and]
  exact Nat.and_two_pow_sub_one_eq_mod s.b.toNat 4

/-- Shifting left multiplies mod 2^16 (R444). -/
theorem Word.toNat_shiftLeft (w : Word) (k : Nat) : (w <<< k).toNat = w.toNat * 2 ^ k % 65536 := by
  rw [BitVec.toNat_shiftLeft, Nat.shiftLeft_eq]

/-- Shifting right divides (R446). -/
theorem Word.toNat_ushiftRight (w : Word) (k : Nat) : (w >>> k).toNat = w.toNat / 2 ^ k := by
  rw [BitVec.toNat_ushiftRight, Nat.shiftRight_eq_div_pow]

/-- Shifting the sign in divides the signed value, rounding down (R445). -/
theorem Word.toInt_sshiftRight (w : Word) (k : Nat) : (w.sshiftRight k).toInt = w.toInt / 2 ^ k := by
  rw [BitVec.toInt_sshiftRight, Int.shiftRight_eq_div_pow, Nat.cast_pow, Nat.cast_ofNat]

/-- Shifting ones in divides the complement (R447). -/
theorem Word.toNat_shiftOnes (w : Word) (k : Nat) :
    (~~~(~~~w >>> k)).toNat = 65535 - (65535 - w.toNat) / 2 ^ k := by
  rw [BitVec.toNat_not, Word.toNat_ushiftRight, BitVec.toNat_not]

/-- Rotating left moves the high bits below the rest (R448). -/
theorem Word.toNat_rotateLeft (w : Word) {k : Nat} (hk : k < 16) :
    (w.rotateLeft k).toNat = w.toNat * 2 ^ k % 65536 + w.toNat / 2 ^ (16 - k) := by
  have hdisjoint : w <<< k &&& w >>> (16 - k) = 0 := by
    ext i hi
    have hhigh : k ≤ i → w.getLsbD (16 - k + i) = false := fun hik => w.getLsbD_of_ge _ (by omega)
    by_cases hik : i < k
    · simp [hik]
    · simp [hhigh (Nat.not_lt.1 hik)]
  rw [BitVec.rotateLeft_def, Nat.mod_eq_of_lt hk, Word.toNat_or_of_disjoint hdisjoint, Word.toNat_shiftLeft,
    Word.toNat_ushiftRight]

/-- The product of two bytes fits a pair (R449). -/
theorem toNat_mul_zext16 (a b : Byte) : (zext16 a * zext16 b).toNat = a.toNat * b.toNat := by
  have hlt : a.toNat * b.toNat < 256 * 256 := Nat.mul_lt_mul'' a.isLt b.isLt
  rw [BitVec.toNat_mul, toNat_zext16, toNat_zext16, Nat.mod_eq_of_lt hlt]

/-- The sum of a pair and a byte (R450 to R452). -/
theorem toNat_add_zext16 (w : Word) (v : Byte) : (w + zext16 v).toNat = (w.toNat + v.toNat) % 65536 := by
  rw [BitVec.toNat_add, toNat_zext16]

/-- Settles O51: each is one write of a pair. -/
theorem extendedPairOperations : Obligations.ExtendedPairOperations := by
  intro s nn
  refine ⟨?bsla, ?bsra, ?bsrl, ?bsrf, ?brlc, ?mul, fun e he => ?addHl, fun e he => ?addDe, fun e he => ?addBc⟩
  case bsla => exact ⟨_, rfl, s.shiftCount_eq ▸ Word.toNat_shiftLeft s.de s.shiftCount, rfl⟩
  case bsra => exact ⟨_, rfl, s.shiftCount_eq ▸ Word.toInt_sshiftRight s.de s.shiftCount, rfl⟩
  case bsrl => exact ⟨_, rfl, s.shiftCount_eq ▸ Word.toNat_ushiftRight s.de s.shiftCount, rfl⟩
  case bsrf => exact ⟨_, rfl, s.shiftCount_eq ▸ Word.toNat_shiftOnes s.de s.shiftCount, rfl⟩
  case brlc =>
    refine ⟨_, rfl, ?_, rfl⟩
    rw [← s.rotateCount_eq]
    exact Word.toNat_rotateLeft s.de (s.rotateCount_eq ▸ Nat.mod_lt _ (by decide))
  case mul => exact ⟨_, rfl, toNat_mul_zext16 .., rfl⟩
  all_goals
    simp only [List.mem_cons, List.not_mem_nil, or_false] at he
    obtain rfl | rfl := he
    · exact ⟨_, rfl, toNat_add_zext16 .., rfl⟩
    · exact ⟨_, rfl, BitVec.toNat_add .., rfl⟩

end Sys2Proof.Machine
end

section
/-! The screen addresses (R460, R461), NEXTREG and JP (C) (R458, R459, R463, R499). -/

namespace Sys2Proof.Machine

/-! ### Screen addresses -/

/-- The address of the first byte of row `d` (R461). -/
def rowAddress (d : Byte) : Word :=
  0x4000 ||| (zext16 (d &&& 0xC0) <<< 5) ||| (zext16 (d &&& 0x07) <<< 8) ||| (zext16 (d &&& 0x38) <<< 2)

theorem toNat_rowAddress (d : Byte) :
    (rowAddress d).toNat = 16384 + 2048 * (d.toNat / 64) + 256 * (d.toNat % 8) + 32 * (d.toNat / 8 % 8) := by
  revert d; decide

/-- PIXELAD in arithmetic: a row begins at a multiple of its 32 bytes, so the byte within it is added (R461). -/
theorem toNat_pixelAddress (d e : Byte) :
    (pixelAddress d e).toNat =
      16384 + 2048 * (d.toNat / 64) + 256 * (d.toNat % 8) + 32 * (d.toNat / 8 % 8) + e.toNat / 8 := by
  have hrow : rowAddress d &&& 0xFFE0 = rowAddress d := by revert d; decide
  have hbyte : (0xFFE0 : Word) &&& zext16 (e >>> 3) = 0 := by revert e; decide
  have hdisjoint := Word.and_mask_disjoint (rowAddress d) hbyte
  rw [hrow] at hdisjoint
  calc (pixelAddress d e).toNat
    _ = (rowAddress d).toNat + (zext16 (e >>> 3)).toNat := Word.toNat_or_of_disjoint hdisjoint
    _ = 16384 + 2048 * (d.toNat / 64) + 256 * (d.toNat % 8) + 32 * (d.toNat / 8 % 8) + e.toNat / 8 := by
      rw [toNat_rowAddress, toNat_zext16, BitVec.toNat_ushiftRight, Nat.shiftRight_eq_div_pow]

/-- PIXELDN in arithmetic: to the next pixel line of the character row, or to the first one of the next character row,
in the same third of the screen or in the next (R460). -/
theorem pixelDown_eq (w : Word) :
    pixelDown w = if (hiByte w).toNat % 8 ≠ 7 then w + 0x0100
      else if (loByte w).toNat / 32 ≠ 7 then w - 0x06E0 else w + 0x0020 := by
  obtain ⟨h, l, rfl⟩ : ∃ h l, w = joinBytes h l := ⟨_, _, (joinBytes_hi_lo w).symm⟩
  have hline : (h &&& 0x07 != 0x07) = decide (h.toNat % 8 ≠ 7) := by revert h; decide
  have hrow : (l &&& 0xE0 != 0xE0) = decide (l.toNat / 32 ≠ 7) := by revert l; decide
  have hthird : (h &&& 0xF8#8).toNat = h.toNat - h.toNat % 8 := by revert h; decide
  have hcolumn : (l &&& 0xFF#8).toNat = l.toNat ∧ (l &&& 0x1F#8).toNat = l.toNat % 32 := by revert l; decide
  have hh := h.isLt
  have hl := l.isLt
  simp only [pixelDown, hiByte_joinBytes, loByte_joinBytes, hline, hrow, decide_eq_true_eq]
  split
  · rfl
  · split
    · rw [show (0xF8FF : Word) = joinBytes 0xF8#8 0xFF#8 from rfl, and_joinBytes]
      apply BitVec.eq_of_toNat_eq
      simp only [BitVec.toNat_add, BitVec.toNat_sub, toNat_joinBytes, hthird, hcolumn, BitVec.ofNat_eq_ofNat,
        BitVec.toNat_ofNat]
      omega
    · rw [show (0xF81F : Word) = joinBytes 0xF8#8 0x1F#8 from rfl, and_joinBytes]
      apply BitVec.eq_of_toNat_eq
      simp only [BitVec.toNat_add, toNat_joinBytes, hthird, hcolumn, BitVec.ofNat_eq_ofNat, BitVec.toNat_ofNat]
      omega

/-- What PIXELDN tests of a screen address: the pixel line `line` within its character row, and that row's number within
its third of the screen. -/
theorem screen_address_digits {third row line column w : Nat} (hrow : row < 8) (hline : line < 8)
    (hcolumn : column < 32) (hw : w = 16384 + 2048 * third + 256 * line + 32 * row + column) :
    w / 256 % 8 = line ∧ w % 256 / 32 = row := by
  constructor <;> omega

/-- How far the row after row `n` is, by the cases of PIXELDN; what it moves back by is on the left. -/
theorem screen_row_succ (n : Nat) :
    2048 * ((n + 1) / 64) + 256 * ((n + 1) % 8) + 32 * ((n + 1) / 8 % 8) +
        (if n % 8 ≠ 7 then 0 else if n / 8 % 8 ≠ 7 then 0x06E0 else 0) =
      2048 * (n / 64) + 256 * (n % 8) + 32 * (n / 8 % 8) +
        (if n % 8 ≠ 7 then 0x0100 else if n / 8 % 8 ≠ 7 then 0 else 0x0020) := by
  have hthird (k : Nat) : k / 64 = k / 8 / 8 := (Nat.div_div_eq_div_mul k 8 8).symm
  simp only [hthird]
  split_ifs <;> omega

/-- Within the screen PIXELDN goes from a row to the next. -/
theorem pixelDown_pixelAddress {d : Byte} (hd : d.toNat < 191) (e : Byte) :
    pixelDown (pixelAddress d e) = pixelAddress (d + 1) e := by
  have hnext : (d + 1).toNat = d.toNat + 1 := BitVec.toNat_add_of_lt (by show d.toNat + 1 < 256; omega)
  have he := e.isLt
  have hw := toNat_pixelAddress d e
  have hw' := toNat_pixelAddress (d + 1) e
  rw [hnext] at hw'
  generalize pixelAddress d e = w at hw
  generalize pixelAddress (d + 1) e = w' at hw'
  have hstep := screen_row_succ d.toNat
  obtain ⟨hline, hrow⟩ := screen_address_digits (Nat.mod_lt _ (by decide)) (Nat.mod_lt _ (by decide)) (by omega) hw
  apply BitVec.eq_of_toNat_eq
  rw [pixelDown_eq, toNat_hiByte, toNat_loByte, hline, hrow]
  clear hline hrow
  have hlt := w'.isLt
  split_ifs at hstep ⊢ <;>
    simp only [BitVec.toNat_add, BitVec.toNat_sub, BitVec.ofNat_eq_ofNat, BitVec.toNat_ofNat] <;> omega

/-- Settles O52: both are one write of HL, by the arithmetic of the two addresses. -/
theorem pixelAddressesFollowTheRows : Obligations.PixelAddressesFollowTheRows := by
  refine ⟨fun s => ⟨_, rfl, rfl, toNat_pixelAddress ..⟩, fun s => ?down, fun s d e hd hde => ?agree⟩
  case down => exact congrArg (fun v => (.next (s.setHl v) : Out)) (pixelDown_eq s.hl)
  case agree =>
    have hrow (d : Byte) : pixelAddress (hiByte (joinBytes d e)) (loByte (joinBytes d e)) = pixelAddress d e := by
      rw [hiByte_joinBytes, loByte_joinBytes]
    refine ⟨_, _, _, rfl, rfl, rfl, ?_⟩
    calc pixelDown (pixelAddress (hiByte s.de) (loByte s.de))
      _ = pixelDown (pixelAddress d e) := by rw [hde]; exact congrArg pixelDown (hrow d)
      _ = pixelAddress (d + 1) e := pixelDown_pixelAddress hd e
      _ = pixelAddress (hiByte (joinBytes (d + 1) e)) (loByte (joinBytes (d + 1) e)) := (hrow (d + 1)).symm

/-! ### Devices -/

/-- The two calls of NEXTREG, where the device is attached (R458). -/
theorem State.extRegWrite_eq (s : State) (n v : Byte) :
    s.extRegWrite n v = { s with
      deviceCalls := (if s.cfg.extRegDevice then [.extSetValue v, .extSelect n] else []) ++ s.deviceCalls } := by
  unfold State.extRegWrite
  split <;> rfl

/-- The target of JP (C): the 16 KiB block of `pc`, and the byte in bits 13 to 6 (R463). -/
theorem toNat_portTarget (pc : Word) (v : Byte) :
    (pc &&& (0xC000 : Word) ||| zext16 v <<< 6).toNat = pc.toNat / 16384 * 16384 + 64 * v.toNat := by
  have hport : (0xC000 : Word) &&& zext16 v <<< 6 = 0 ∧ (zext16 v <<< 6).toNat = 64 * v.toNat := by
    revert v; decide
  have hblock : (pc &&& 0xC000).toNat = pc.toNat / 16384 * 16384 := by
    have hhigh (h : Byte) : (h &&& 0xC0).toNat = h.toNat / 64 * 64 := by revert h; decide
    have hlow (l : Byte) : (l &&& 0x00).toNat = 0 := by revert l; decide
    rw [← joinBytes_hi_lo pc, show (0xC000 : Word) = joinBytes 0xC0 0x00 from rfl, and_joinBytes, toNat_joinBytes,
      toNat_joinBytes, hhigh, hlow, toNat_loByte]
    omega
  rw [Word.toNat_or_of_disjoint (Word.and_mask_disjoint pc hport.1), hblock, hport.2]

/-- Settles O53: NEXTREG is the two calls or none, JP (C) one port read and a write of PC. -/
theorem extendedDevicesAndPortJump : Obligations.ExtendedDevicesAndPortJump := by
  intro s n v
  refine ⟨fun e he => ?_, _, rfl, toNat_portTarget .., rfl⟩
  simp only [List.mem_cons, List.not_mem_nil, or_false] at he
  obtain rfl | rfl := he
  · exact congrArg (fun t : State => (.next (t.tick 12) : Out)) (s.extRegWrite_eq n v)
  · exact congrArg (fun t : State => (.next (t.tick 9) : Out)) (s.extRegWrite_eq n s.a)

end Sys2Proof.Machine
end

section
/-! The signal services (R484 to R494): their order, and what accepting INT or NMI saves, clears and loads. -/

namespace Sys2Proof.Machine

variable {s t u : State}

/-! ### The order of service -/

/-- A call in Idle performs the first service that is due, or runs what it fetched (R101, R484). -/
theorem step_of_idle (hd : s.dec = .idle) (hu : exec s.currentInstr s.fetched = .next u) :
    step s = .next ((s.serviceInOrder.map s.serve).getD (s.endCall u)) := by
  have hp : s.pendingService = s.serviceInOrder := if_pos hd
  cases hs : s.serviceInOrder with
  | some v => exact step_of_service (hp.trans hs)
  | none => simp only [step, hp, hs, hu, Option.map_none, Option.getD_none]

/-- INT's acceptance condition (R486). -/
theorem State.intAcceptable_iff (s : State) :
    s.intAcceptable = true ↔ s.int = true ∧ s.iff1 = true ∧ s.intBlocked = false := by
  simp only [State.intAcceptable, Bool.and_eq_true, Bool.not_eq_true', and_assoc]

/-- Settles O55: the services of both orders, clause by clause. -/
theorem signalsAreServicedInOrder : Obligations.SignalsAreServicedInOrder := by
  intro s hd
  obtain ⟨u, hu, -⟩ := exec_acts s.currentInstr s.fetched
  refine ⟨u, hu, fun ho => ?_, fun ho => ?_⟩ <;>
  · rw [step_of_idle hd hu]
    simp only [State.serviceInOrder, ho, s.intAcceptable_iff, apply_ite (Option.map s.serve),
      apply_ite (Option.getD · (s.endCall u)), Option.map_some, Option.map_none, Option.getD_some, Option.getD_none,
      State.serve]

/-! ### Acknowledges -/

/-- What a stored word changed depends on the configuration and the memory before and after it only. -/
theorem State.storesWord_of_base {s' t' : State} {a v : Word} (hs : s'.cfg = s.cfg) (ht : t.cfg = s.cfg)
    (ht' : t'.cfg = s.cfg) (hm : s'.mem = s.mem) (hm' : t.mem = t'.mem) (h : s'.storesWord t' a v) :
    s.storesWord t a v := by
  unfold State.storesWord at h ⊢
  rw [hs] at h
  split
  · rename_i hr
    have hread (b : Word) : s'.read b = s.read b ∧ t'.read b = t.read b := by
      rw [State.read_ram (hs ▸ hr), State.read_ram hr, hm, State.read_ram (ht' ▸ hr), State.read_ram (ht ▸ hr), hm']
      exact ⟨rfl, rfl⟩
    simpa only [hr, hread] using h
  · rename_i hr
    simpa only [hr, hm, hm'] using h

/-- The refresh of `R_INC_ON_ACK` (R487, R491). -/
theorem toNat_refreshOnAck (b : Bool) (r : Byte) :
    (if b then refreshNext r else r).toNat = refreshedBy (if b then 1 else 0) r := by
  cases b
  · exact (congrArg BitVec.toNat (ofNat_refreshedBy_zero r)).symm.trans (toNat_ofNat_refreshedBy 0 r)
  · exact toNat_refreshNext r

/-- Settles O57: `AcceptNMI` is one push of PC and a jump. -/
theorem nonMaskableInterruptsEnterTheirHandler : Obligations.NonMaskableInterruptsEnterTheirHandler := by
  intro s hw hs
  have ho := (step_of_service hs).trans (congrArg Host.Outcome.next s.acceptNmi_eq)
  obtain ⟨t, ho, hstore, ht⟩ := State.calls_of_push_jump ho hw
  have hr : t.r = if s.cfg.rIncOnAck then refreshNext s.r else s.r := congrArg State.r ht
  rw [← toNat_refreshOnAck, ← hr]
  exact ⟨t, ho, hstore, rfl, hr ▸ ht⟩

/-- The state in which `AcceptINT` pushes PC: both flip-flops cleared, HALTED left, and R refreshed under `R_INC_ON_ACK`
(R487). -/
def State.beforeIntPush (s : State) : State :=
  { s with halted := false, pc := if s.halted then s.pc + 1 else s.pc, iff1 := false, iff2 := false
           r := if s.cfg.rIncOnAck then refreshNext s.r else s.r }

/-- The state after that push, with only the vector still to take. -/
def State.intPushed (s : State) : State := s.beforeIntPush.push16 s.beforeIntPush.pc

theorem State.intPushed_frame (s : State) :
    s.intPushed = { s with
      mem := s.intPushed.mem, halted := false, iff1 := false, iff2 := false
      pc := if s.halted then s.pc + 1 else s.pc
      r := if s.cfg.rIncOnAck then refreshNext s.r else s.r, sp := s.sp - 2
      deviceCalls := pushWrites s.sp (if s.halted then s.pc + 1 else s.pc) ++ s.deviceCalls } :=
  s.beforeIntPush.push16_frame s.beforeIntPush.pc

/-- The vector of modes 0 and 1 is fixed, and nothing is read (R489). -/
theorem intVector_fixed (h : u.im = .m0 ∨ u.im = .m1) : intVector u = (0x0038, u) := by
  unfold intVector
  obtain h | h := h <;> rw [h]

/-- The vector of mode 2 is the word at {I, 0xFF} (R489). -/
theorem intVector_table (h : u.im = .m2) :
    intVector u = (u.read16 (u.i ++ (0xFF : Byte)), u.afterRead16 (u.i ++ (0xFF : Byte))) := by
  unfold intVector
  rw [h]
  rfl

/-- Taking the vector changes the record of device calls only. -/
theorem intVector_frame (u : State) : (intVector u).2 = { u with deviceCalls := (intVector u).2.deviceCalls } := by
  unfold intVector
  split <;> rfl

/-- `AcceptINT` is a push of PC and a jump to the vector (R487, R489). -/
theorem State.acceptInt_eq (s : State) :
    s.acceptInt = ((intVector s.intPushed).2.jump (intVector s.intPushed).1).tick (intCost s.im) := by
  have hr (u : State) (b : Bool) : (if b then u.refresh else u) =
      { u with r := if b then refreshNext u.r else u.r } := by
    cases b <;> rfl
  simp only [State.acceptInt, State.enterHandler, hr, State.leaveHalt_eq, State.intPushed, State.beforeIntPush,
    State.setIffs]

theorem State.acceptInt_frame (s : State) :
    s.acceptInt = { s with
      mem := s.intPushed.mem, halted := false, iff1 := false, iff2 := false
      r := if s.cfg.rIncOnAck then refreshNext s.r else s.r, sp := s.sp - 2
      pc := (intVector s.intPushed).1, wz := (intVector s.intPushed).1, ticks := s.ticks + intCost s.im
      deviceCalls := (intVector s.intPushed).2.deviceCalls } := by
  rw [s.acceptInt_eq, intVector_frame s.intPushed]
  generalize intVector s.intPushed = v
  exact congrArg (fun u : State => ({ u with deviceCalls := v.2.deviceCalls }.jump v.1).tick (intCost s.im))
    s.intPushed_frame

/-- Settles O56: `AcceptINT` is one push of PC and a jump to the vector, which mode 2 reads after the push. -/
theorem acceptedInterruptsEnterTheirHandler : Obligations.AcceptedInterruptsEnterTheirHandler := by
  intro s hw hs
  have ho : step s = .next s.acceptInt := step_of_service hs
  have hstore : s.beforeIntPush.storesWord s.intPushed (s.sp - 2) s.beforeIntPush.pc :=
    s.beforeIntPush.storesWord_push16 s.beforeIntPush.pc hw
  have hcalls := congrArg State.deviceCalls s.intPushed_frame
  rw [s.acceptInt_frame] at ho
  rw [← toNat_refreshOnAck]
  refine ⟨_, ho, State.storesWord_of_base (s' := s.beforeIntPush) (t' := s.intPushed) rfl rfl rfl rfl rfl hstore,
    fun hm => ?fixed, fun hm => ?table, rfl, rfl⟩
  case fixed =>
    have hcost : intCost s.im = 13 := by obtain hm | hm := hm <;> rw [hm] <;> rfl
    rw [intVector_fixed (u := s.intPushed) hm, hcost]
    exact ⟨rfl, rfl, hcalls⟩
  case table =>
    rw [intVector_table (u := s.intPushed) hm, hm]
    exact ⟨rfl, s.intPushed, rfl, rfl, hcalls, State.toNat_read16 .., rfl⟩

end Sys2Proof.Machine
end

section
/-! The contention model (R547): no fetch, meaning or service reads it, so every one of them commutes with a change of
it. Most of them do so by computation; the operations that branch on the state are taken one by one. -/

namespace Sys2Proof.Machine

variable {s t u : State} {c : ContentionModel}

/-- The same state under the contention model `c` (R8, R547). -/
def State.withContention (s : State) (c : ContentionModel) : State :=
  { s with cfg := { s.cfg with contention := c } }

namespace State.withContention

/-! ### Operations that branch -/

theorem charge (n k : Nat) (h : t = s.withContention c) : t.charge n k = (s.charge n k).withContention c :=
  h ▸ rfl

theorem jumpIf (b : Bool) (nn : Word) : (s.withContention c).jumpIf b nn = (s.jumpIf b nn).withContention c := by
  cases b <;> rfl

theorem relIf (s : State) (b : Bool) (e : Byte) (m n k : Nat) :
    (s.withContention c).relIf b e m n k = (s.relIf b e m n k).withContention c := by
  cases b <;> rfl

theorem callIf (b : Bool) (nn : Word) (m n k : Nat) :
    (s.withContention c).callIf b nn m n k = (s.callIf b nn m n k).withContention c := by
  cases b <;> rfl

theorem returnIf (b : Bool) (m n k : Nat) :
    (s.withContention c).returnIf b m n k = (s.returnIf b m n k).withContention c := by
  cases b <;> rfl

theorem extRegWrite (r v : Byte) :
    (s.withContention c).extRegWrite r v = (s.extRegWrite r v).withContention c := by
  rw [State.extRegWrite_eq, State.extRegWrite_eq]
  rfl

theorem blockLoadX (d : Word) : (s.withContention c).blockLoadX d = (s.blockLoadX d).withContention c := by
  rw [State.blockLoadX_eq, State.blockLoadX_eq]
  rfl

theorem patternLoad : (s.withContention c).patternLoad = s.patternLoad.withContention c := by
  rw [State.patternLoad_eq, State.patternLoad_eq]
  rfl

section

variable {again : State → Bool} (hagain : ∀ s : State, again (s.withContention c) = again s)

include hagain

theorem repeatWhile (h : t = s.withContention c) : t.repeatWhile again = (s.repeatWhile again).withContention c := by
  subst h
  unfold State.repeatWhile
  rw [hagain]
  split <;> rfl

theorem repeatKeepWz (h : t = s.withContention c) : t.repeatKeepWz again = (s.repeatKeepWz again).withContention c := by
  subst h
  unfold State.repeatKeepWz
  rw [hagain]
  split <;> rfl

end

/-! ### Services -/

theorem intVector (u : State) :
    Machine.intVector (u.withContention c) =
      ((Machine.intVector u).1, (Machine.intVector u).2.withContention c) := by
  have him : (u.withContention c).im = u.im := rfl
  unfold Machine.intVector
  rw [him]
  split <;> rfl

theorem serve (s : State) (v : Service) : (s.withContention c).serve v = (s.serve v).withContention c := by
  cases v with
  | acceptInt =>
    have hpush : (s.withContention c).intPushed = s.intPushed.withContention c := rfl
    rw [State.serve, State.serve, State.acceptInt_eq, State.acceptInt_eq, hpush, intVector]
    rfl
  | acceptNmi =>
    rw [State.serve, State.serve, State.acceptNmi_eq, State.acceptNmi_eq]
    rfl
  | haltedSpin | reset => rfl

/-! ### Fetches -/

theorem fetchBytes (n : Nat) (s : State) :
    State.fetchBytes n (s.withContention c) = (State.fetchBytes n s).withContention c := by
  induction n generalizing s with
  | zero => rfl
  | succ n ih => exact ih s.fetchByte

theorem byteAt (s : State) (k : Nat) : (s.withContention c).byteAt k = s.byteAt k := by
  rw [State.byteAt, fetchBytes]
  rfl

theorem nextCall (s : State) : (s.withContention c).nextCall = s.nextCall := by
  rw [State.nextCall, byteAt, byteAt, byteAt]
  rfl

theorem currentInstr (s : State) : (s.withContention c).currentInstr = s.currentInstr :=
  congrArg Prod.fst (nextCall s)

theorem prefixAhead (s : State) : (s.withContention c).prefixAhead = s.prefixAhead := by
  rw [State.prefixAhead, byteAt]
  rfl

theorem fetchOpcode (s : State) : (s.withContention c).fetchOpcode = s.fetchOpcode.withContention c := by
  rw [State.fetchOpcode_eq, State.fetchOpcode_eq]
  rfl

theorem fetchTerminal (s : State) : (s.withContention c).fetchTerminal = s.fetchTerminal.withContention c := by
  rw [State.fetchTerminal, nextCall, byteAt, fetchOpcode]
  exact fetchBytes _ (s.fetchOpcode.dispatching (s.byteAt 0))

theorem fetched (s : State) : (s.withContention c).fetched = s.fetched.withContention c := by
  have hd : (s.withContention c).dec = s.dec := rfl
  simp only [State.fetched, hd, prefixAhead, fetchOpcode, fetchTerminal, fetchBytes, byteAt]
  split
  case h_2 | h_3 => split <;> rfl
  all_goals rfl

theorem endCall (s t : State) :
    (s.withContention c).endCall (t.withContention c) = (s.endCall t).withContention c := by
  rw [State.endCall, State.endCall, prefixAhead, currentInstr]
  split <;> rfl

end State.withContention

/-! ### Meanings and calls -/

open State.withContention in
/-- No meaning reads the contention model. -/
theorem exec_withContention (i : Instr) (s : State) (c : ContentionModel) :
    ∃ t, exec i s = .next t ∧ exec i (s.withContention c) = .next (t.withContention c) := by
  cases i
  all_goals refine ⟨_, rfl, ?_⟩
  -- a register or a pair that the instruction selects
  case ldRR r _ | ldRRX _ r _ | ldRN r _ | ldRNX _ r _ | ldRMHl r | ldRMXd _ r _ | inRC r | incR r | incRX _ r | decR r
      | decRX _ r | rlcR r | rrcR r | rlR r | rrR r | slaR r | sraR r | sllR r | srlR r | setR _ r | resR _ r
      | rlcMXdR _ _ r | rrcMXdR _ _ r | rlMXdR _ _ r | rrMXdR _ _ r | slaMXdR _ _ r | sraMXdR _ _ r | sllMXdR _ _ r
      | srlMXdR _ _ r | setMXdR _ _ _ r | resMXdR _ _ _ r =>
    cases r <;> rfl
  case ldRRXH x r _ => cases r <;> cases x <;> rfl
  case ldXHN x h _ | incXH x h | decXH x h => cases h <;> cases x <;> rfl
  case ldXNn x _ | ldXMem x _ | popX x | exSpX x | addXRp x _ | incX x | decX x => cases x <;> rfl
  case ldRpNn p _ | ldRpNnX _ p _ | ldRpMem p _ | incRp p | incRpX _ p | decRp p | decRpX _ p => cases p <;> rfl
  case popQ q | popQX _ q => cases q <;> rfl
  -- a condition of the state
  case jpCc | jpCcX => exact congrArg Host.Outcome.next (charge _ _ (jumpIf ..))
  case jrCc | jrCcX => exact congrArg Host.Outcome.next (relIf s ..)
  case djnz | djnzX => exact congrArg Host.Outcome.next (relIf (s.setR8 .b (s.b - 1)) ..)
  case callCc | callCcX => exact congrArg Host.Outcome.next (callIf ..)
  case retCc | retCcX => exact congrArg Host.Outcome.next (returnIf ..)
  case nextregN | nextregA => exact congrArg Host.Outcome.next (charge _ _ (extRegWrite ..))
  case ldir | lddr | cpir | cpdr | inir | indr | otir | otdr =>
    exact congrArg Host.Outcome.next (repeatWhile (fun _ => rfl) rfl)
  case ldix | lddx => exact congrArg Host.Outcome.next (charge _ _ (blockLoadX _))
  case ldirx | lddrx => exact congrArg Host.Outcome.next (repeatKeepWz (fun _ => rfl) (blockLoadX _))
  case ldpirx => exact congrArg Host.Outcome.next (repeatKeepWz (fun _ => rfl) patternLoad)
  -- every other meaning, by computation
  all_goals rfl

open State.withContention in
/-- Settles O60: a service, or the fetches, the meaning and the end of the call, are the same under both models. -/
theorem contentionModelHasNoEffect : Obligations.ContentionModelHasNoEffect := by
  intro s t c h
  show step (s.withContention c) = .next (t.withContention c)
  have hp : (s.withContention c).pendingService = s.pendingService := rfl
  obtain ⟨v, hv, rfl⟩ | ⟨hs, u, hu, rfl⟩ := step_cases h
  · rw [step_of_service (hp.trans hv), serve]
  · obtain ⟨u', hu', hc⟩ := exec_withContention s.currentInstr s.fetched c
    cases hu.symm.trans hu'
    rw [← fetched, ← currentInstr (c := c)] at hc
    simp only [step, hp.trans hs, hc, endCall]

end Sys2Proof.Machine
end
